-- ==== Sys2Proof/Word.lean ====
section
/-! DEFINITION. Words, times and the index types of the part's tables (00_scope.md 0.6). -/

namespace Sys2Proof

/-- A 32-bit word of a frame, and a 32-bit rack or module byte address. -/
abbrev Word := BitVec 32

/-- A Time Base value, in microseconds modulo 2^32 (R44). -/
abbrev Time := BitVec 32

/-- The words of a received frame, header first, without its check sequence (R158). -/
abbrev Frame := List Word

/-- A branch number (NBR = 6). -/
abbrev BranchId := Fin 6

/-- A window record number (NWIN = 32). -/
abbrev WindowId := Fin 32

/-- A Transaction Table index, which is also a downstream tag (NTT = 48). -/
abbrev EntryId := Fin 48

/-- A notice line number (NLINE = 56), in the numbering of R103. -/
abbrev LineId := Fin 56

/-- A number as one word of a result (R171). -/
def word (n : Nat) : Word := BitVec.ofNat 32 n

/-- A mark or flag as one word of a result: 1 for set, on or yes (R171). -/
def flagWord (b : Bool) : Word := if b then 1 else 0

end Sys2Proof
end

