-- ==== Sys2Proof/Syntax.lean ====
section
/-! DEFINITION. The commands of the block: one constructor for each row of spec/opcode_table.json, in the table's order.
A command is one event of the part, taken whole (00_scope.md 0.5). A received frame is given by its words. -/

namespace Sys2Proof

/-- One event, as spec/opcode_table.json lists it. -/
inductive Instr where
  | powerOnReset
  | leavePowerOnReset
  | trunkPartnerAppears
  | trunkTrainingComplete
  | trunkCheckFailure
  | trunkResetSequenceReceived
  | trunkPartnerLost
  | intakeArrival (f : Frame)
  | noticeAck (f : Frame)
  | trunkCreditReceived (f : Frame)
  | trunkUnexpectedFrame (f : Frame)
  | trunkFrameSent
  | sendReply
  | sendControlReply
  | sendNotice
  | sendCredit
  | routeExamination
  | badCommand
  | loadWindow
  | readWindow
  | retireWindow
  | loadLine
  | readLine
  | setTiming
  | fenceBranch
  | unfenceBranch
  | resetBranch
  | readStatus
  | takeFaults
  | clearCounters
  | clearPath
  | identify
  | branchPartnerAppears (b : BranchId)
  | branchTrainingComplete (b : BranchId) (capacity : BitVec 4)
  | branchPartnerLost (b : BranchId)
  | branchCheckFailure (b : BranchId)
  | branchResetSequenceReceived (b : BranchId)
  | stallTimerExpiry (b : BranchId)
  | partnerWaitExpiry (b : BranchId)
  | branchReply (b : BranchId) (f : Frame)
  | branchCredit (b : BranchId) (f : Frame)
  | branchNotice (b : BranchId) (f : Frame)
  | withdraw (b : BranchId) (f : Frame)
  | unitReturn (b : BranchId) (f : Frame)
  | branchUnexpectedFrame (b : BranchId) (f : Frame)
  | branchFrameSent (b : BranchId)
  | sendGrant (b : BranchId)
  | sendReclaim (b : BranchId)
  | sendRelease (b : BranchId)
  | issueNonPosted (b : BranchId)
  | issuePosted (b : BranchId)
  | requestDeadlineExpiry (e : EntryId)
  | lingerExpiry (e : EntryId)
  | resendDeadlineExpiry (l : LineId)
  | selection
  | drainComplete (b : BranchId)
  | retireComplete (w : WindowId)
  deriving DecidableEq, Repr

end Sys2Proof
end

