-- ==== Sys2Proof/Decode.lean ====
section
/-! DEFINITION. The command that a word spells by the table's bits. No row of spec/opcode_table.json gives bits ("fields" is empty in
every row), so no word spells a command. The frames the part receives are read in Machine/Link.lean. -/

namespace Sys2Proof

/-- The command spelled by the low `nbits` bits of `w`: none, since no row gives bits. -/
def decodeTableWord (_nbits _w : Nat) : Option Instr := none

end Sys2Proof
end

