-- ==== Sys2Proof/Config.lean ====
section
/-! DEFINITION. What an implementation fixes: the principal parameters of 00_scope.md 0.6, the fixed partner wait
the identity of the part, and the one free value, an order that the rules leave open. -/

namespace Sys2Proof.Config

/-- NIQ, and the number of intake credits the part grants (R130, R131, R142). -/
def intakeCapacity : Nat := 16

/-- NBQ, items per branch queue (R58). -/
def queueCapacity : Nat := 8

/-- NDL, Delivery List records (R114). -/
def deliveryCapacity : Nat := 4

/-- NPCL, Pending Control List records (R181). -/
def pclCapacity : Nat := 4

/-- NFQ, Fault Queue records (R188). -/
def faultCapacity : Nat := 8

/-- The value at which a counter holds (R192). -/
def counterMax : Nat := 65535

/-- Pages of 4 KiB in an address space of 2^32 bytes (R11). -/
def addressPages : Nat := 1048576

/-- Bytes in a page (R11). -/
def pageBytes : Nat := 4096

/-- tPARTNER, fixed at 50,000 µs (R47). -/
def tPartner : Time := 50000

/-- Family code of IDENTIFY (R194). -/
def family : Nat := 7

/-- Member code of IDENTIFY (R194). -/
def member : Nat := 6

/-- Revision letter of IDENTIFY: parts described by the manual report B, carried as 1 (R194). -/
def revision : Nat := 1

/-- FREE VALUE (log entry 10): whether a RESET-BRANCH, by its sequence, branch and Time Base value, places the answer of the fence it
replaces before those of the retires it ends (R97), or in the order of the list (R183), where the two orders differ. -/
opaque fenceAnsweredFirst : BitVec 8 → BranchId → Time → Bool

end Sys2Proof.Config
end

