-- ==== Sys2Proof/Machine/State.lean ====
section
/-! DEFINITION. The state of the GC-6: every record, queue, list, counter, mark and pin the spec gives it, as plain data, the queue
of commands that wait, the reasons a step can stop, and the state after power-on reset. -/

namespace Sys2Proof.Machine

/-! ## Windows (chapter 1) -/

/-- The state of a window record (R2), in the order of its codes (R171). -/
inductive WindowState where
  | empty | live | retiring
  deriving DecidableEq, Repr

/-- A set of rights (R5). -/
structure Rights where
  read : Bool
  write : Bool
  swap : Bool
  posted : Bool
  deriving DecidableEq, Repr

/-- A window record (R1). Addresses and sizes are byte numbers; a size may be 2^32. -/
structure Window where
  state : WindowState
  base : Nat
  size : Nat
  branch : BranchId
  target : Nat
  rights : Rights
  cls : Fin 4
  inFlight : Nat
  deriving DecidableEq, Repr

/-- An EMPTY record, every other field zero (R1). -/
def Window.blank : Window :=
  ⟨.empty, 0, 0, 0, 0, ⟨false, false, false, false⟩, 0, 0⟩

/-! ## Entries (chapter 2) -/

/-- The op of a request (0.7). -/
inductive Op where
  | read | write | postedWrite | swap
  deriving DecidableEq, Repr

/-- The op of a non-posted request. -/
inductive NpOp where
  | read | write | swap
  deriving DecidableEq, Repr

/-- The fields of an entry that are present in every state but FREE (R20). -/
structure Held where
  tag : BitVec 6
  op : NpOp
  branch : BranchId
  window : WindowId
  address : Word
  length : BitVec 5
  hop : BitVec 3
  cls : Fin 4
  deriving DecidableEq, Repr

/-- A Transaction Table entry: its state with the fields that state has (R20, R21). -/
inductive Entry where
  | free
  | queued (h : Held) (data : List Word)
  | issued (h : Held) (deadline : Time)
  | answered (h : Held) (outstanding : Bool)
  | linger (h : Held) (deadline : Time)
  deriving DecidableEq, Repr

/-! ## Branches (chapters 4 and 5) -/

/-- A Branch Queue item (R59). -/
inductive Item where
  | nonPosted (e : EntryId)
  | posted (window : WindowId) (address : Word) (length : BitVec 5) (hop : BitVec 3) (data : List Word)
  deriving DecidableEq, Repr

/-- The state of a branch (R76), in the order of its codes (R171). -/
inductive BranchState where
  | down | training | active | draining | fenced | lent | resetting
  deriving DecidableEq, Repr

/-- What a module means to hold, or was told (R67). -/
inductive Lend where
  | granted | notGranted
  deriving DecidableEq, Repr

/-- A frame on a branch transmitter (9.5). -/
inductive BranchFrame where
  | request (op : Op) (tag : BitVec 6) (address : Word) (length : BitVec 5) (hop : BitVec 3) (data : List Word)
  | release (line : Fin 8)
  | grant
  | reclaim
  deriving DecidableEq, Repr

/-- A Branch Port with its Branch Queue (R58, R67, R71, R76). `partner` is the partner signal at the port (R157);
`resetSeqs` is the model's own count of the reset sequences the port has begun to send (R161). -/
structure Branch where
  state : BranchState
  queue : List Item
  capacity : Nat
  credit : Nat
  withdraw : Bool
  drainLend : Bool
  partnerWait : Option Time
  ignorePartner : Bool
  stallTimer : Option Time
  releaseMarks : Vector Bool 8
  lendWanted : Lend
  lendTold : Lend
  tx : Option BranchFrame
  partner : Bool
  resetSeqs : Nat
  deriving DecidableEq, Repr

/-- A port at power-on reset, with the partner signal as it stands (R76). -/
def Branch.powerOn (partner : Bool) : Branch :=
  { state := .down, queue := [], capacity := 0, credit := 0, withdraw := false, drainLend := false, partnerWait := none,
    ignorePartner := false, stallTimer := none, releaseMarks := Vector.replicate 8 false, lendWanted := .notGranted,
    lendTold := .notGranted, tx := none, partner := partner, resetSeqs := 0 }

/-! ## Notices (chapter 6) -/

/-- The state of a notice line (R105), in the order of its codes (R171). -/
inductive LineState where
  | idle | held | pending | delivered
  deriving DecidableEq, Repr

/-- A Line Table line (R103). -/
structure Line where
  enable : Bool
  priority : BitVec 3
  vector : BitVec 8
  release : Bool
  state : LineState
  again : Bool
  deriving DecidableEq, Repr

/-- A line at power-on reset (R104). -/
def Line.powerOn : Line := ⟨false, 0, 0, false, .idle, false⟩

/-- Whether a NOTICE for a delivery waits to go up; SENT holds the resend deadline (R114). -/
inductive SendState where
  | firstDue
  | sent (deadline : Time)
  | resendDue
  deriving DecidableEq, Repr

/-- A Delivery List record (R114). -/
structure Delivery where
  line : LineId
  vector : BitVec 8
  send : SendState
  resends : Nat
  deriving DecidableEq, Repr

/-! ## Intake and trunk (chapters 7 to 9) -/

/-- A REQUEST as received on the trunk (R168). -/
structure Request where
  op : BitVec 3
  tag : BitVec 6
  length : BitVec 5
  hop : BitVec 3
  address : Word
  data : List Word
  deriving DecidableEq, Repr

/-- A CONTROL frame as received on the trunk (R171). -/
structure Control where
  seq : BitVec 8
  command : BitVec 8
  operands : List Word
  deriving DecidableEq, Repr

/-- A frame of the Intake Queue (R130). -/
inductive IntakeFrame where
  | request (r : Request)
  | control (c : Control)
  deriving DecidableEq, Repr

/-- The eleven Reply statuses, in the order of their codes (9.7). -/
inductive ReplyStatus where
  | ok | noRoute | boundary | denied | hopLimit | fenced | branchDown | timeout | targetError | aborted | malformed
  deriving DecidableEq, Repr

/-- What the sending of a Reply reaches (R146). -/
inductive Origin where
  | entry (e : EntryId)
  | refusal
  deriving DecidableEq, Repr

/-- A Reply Queue record (R146). -/
structure Reply where
  tag : BitVec 6
  status : ReplyStatus
  data : List Word
  origin : Origin
  deriving DecidableEq, Repr

/-- The twelve control statuses, in the order of their codes (9.7). -/
inductive ControlStatus where
  | done | busy | already | inUse | overlap | wrongState | notFenced | badOperand | badCommand | aborted | noPartner | branchLost
  deriving DecidableEq, Repr

/-- Whether a control reply holds its frame's credit (R148). -/
inductive ControlKind where
  | immediate | completion
  deriving DecidableEq, Repr

/-- A Control Reply Queue record (R148). -/
structure ControlReply where
  seq : BitVec 8
  status : ControlStatus
  result : List Word
  kind : ControlKind
  deriving DecidableEq, Repr

/-- A frame on the trunk transmitter (9.5). -/
inductive TrunkFrame where
  | reply (tag : BitVec 6) (status : ReplyStatus) (data : List Word)
  | controlReply (seq : BitVec 8) (status : ControlStatus) (result : List Word)
  | notice (vector : BitVec 8)
  | credit (count : Nat)
  deriving DecidableEq, Repr

/-- The sources of the arbiter's rotation (R150). -/
inductive Source where
  | control | reply | notice
  deriving DecidableEq, Repr

/-- The trunk's link state (R162). -/
inductive TrunkState where
  | down | training | up
  deriving DecidableEq, Repr

/-- The Trunk Port (R162) and the Trunk Transmit Arbiter (R150): `tx` is `none` when the transmitter is FREE.
`partner` and `resetSeqs` are as in `Branch`. -/
structure Trunk where
  state : TrunkState
  restored : Bool
  partner : Bool
  tx : Option TrunkFrame
  pointer : Source
  resetSeqs : Nat
  deriving DecidableEq, Repr

/-- The trunk at power-on reset, with the partner signal as it stands (R151, R162). -/
def Trunk.powerOn (partner : Bool) : Trunk := ⟨.down, false, partner, none, .control, 0⟩

/-! ## Control Unit (chapter 10) -/

/-- A long operation and its object (R181). -/
inductive LongOp where
  | retire (w : WindowId)
  | fence (b : BranchId)
  | reset (b : BranchId)
  deriving DecidableEq, Repr

/-- A Pending Control List record (R181). -/
structure PendingControl where
  seq : BitVec 8
  op : LongOp
  accepted : Time
  deriving DecidableEq, Repr

/-- The kinds of fault record, in the order of their codes (R191). -/
inductive FaultKind where
  | duplicateTag | creditOverrun | strayReply | lengthMismatch | badNotice | unexpectedFrame | postedDropped | creditExcess
  | branchLost
  deriving DecidableEq, Repr

/-- The causes of a branch loss, in the order of their codes (R191). -/
inductive LossCause where
  | signalLost | check | partnerReset | stall | reset
  deriving DecidableEq, Repr

/-- The cause field of a fault record (R187). A frame kind is held as the code received: a code that names no kind is
the cause UNKNOWN (R191). -/
inductive FaultCause where
  | frameKind (k : BitVec 4)
  | refusal (s : ReplyStatus)
  | loss (c : LossCause)
  deriving DecidableEq, Repr

/-- A fault record: a field that is absent is `none` (R187). -/
structure FaultRecord where
  kind : FaultKind
  timestamp : Time
  branch : Option BranchId := none
  upTag : Option (BitVec 6) := none
  downTag : Option (BitVec 6) := none
  address : Option Word := none
  cause : Option FaultCause := none
  count : Option Nat := none
  deriving DecidableEq, Repr

/-- The six counters, in the order of READ-STATUS (R186, R192). -/
structure Counters where
  lateReplies : Nat
  coalesced : Nat
  strayAcks : Nat
  resends : Nat
  trunkResets : Nat
  faultOverflows : Nat
  deriving DecidableEq, Repr

/-- All six counters 0 (R192, R193). -/
def Counters.zero : Counters := ⟨0, 0, 0, 0, 0, 0⟩

/-- The loadable values of the Timing Set (R47). -/
structure Timing where
  cls0 : Time
  cls1 : Time
  cls2 : Time
  cls3 : Time
  rsnd : Time
  stall : Time
  deriving DecidableEq, Repr

/-- The defaults of the Timing Set (R47). -/
def Timing.defaults : Timing := ⟨500, 5000, 50000, 500000, 2000, 100000⟩

/-! ## The whole part -/

/-- The state of the part, and the queue of commands it has not yet taken. -/
structure State where
  /-- PORST_N is held low. -/
  porst : Bool
  timeBase : Time
  timing : Timing
  windows : Vector Window 32
  entries : Vector Entry 48
  branches : Vector Branch 6
  lines : Vector Line 56
  deliveries : List Delivery
  intake : List IntakeFrame
  /-- The credit accumulator. -/
  acc : Nat
  replyQ : List Reply
  ctlQ : List ControlReply
  trunk : Trunk
  pcl : List PendingControl
  faults : List FaultRecord
  counters : Counters
  pending : List Instr
  deriving DecidableEq, Repr

/-- The power-on values of every block (R1, R21, R47, R57, R58, R76, R104, R130, R142, R146, R148, R151, R162, R181, R188, R192) with
the partner signals as they stand on the links, which the part does not drive, and the commands that wait. -/
def State.powerOn (trunkPartner : Bool) (branchPartner : Vector Bool 6) (pending : List Instr) : State :=
  { porst := true
    timeBase := 0
    timing := Timing.defaults
    windows := Vector.replicate 32 Window.blank
    entries := Vector.replicate 48 .free
    branches := Vector.ofFn fun b => Branch.powerOn branchPartner[b]
    lines := Vector.replicate 56 Line.powerOn
    deliveries := []
    intake := []
    acc := 0
    replyQ := []
    ctlQ := []
    trunk := Trunk.powerOn trunkPartner
    pcl := []
    faults := []
    counters := Counters.zero
    pending := pending }

/-- The part in power-on reset, PORST_N held low, no partner signal on any link, nothing pending. DESIGN CHOICE (log entry 6). -/
def State.reset : State := State.powerOn false (Vector.replicate 6 false) []

/-- Why the model stops: a step of the part ITSELF is asked for in a state in which the part does not take it. The hardware
never does this, so every stop is safe (log entry 3). An event from outside never stops the model. -/
inductive Fault where
  /-- ROUTE_EXAMINATION or a control command: the intake head is not a frame this step takes (R132). Safe. -/
  | notAtHead
  /-- SEND_REPLY, SEND_CONTROL_REPLY, SEND_NOTICE, SEND_CREDIT: not what the Trunk Transmit Arbiter sends now (R150, R151). Safe. -/
  | notTrunkChoice
  /-- SEND_GRANT, SEND_RECLAIM, SEND_RELEASE, ISSUE_NON_POSTED, ISSUE_POSTED: not what the Branch Port sends now (R61, R67). Safe. -/
  | notBranchChoice
  /-- An expiry: no such deadline runs, or the Time Base has not reached it (R46, R50). Safe. -/
  | notDue
  /-- SELECTION: the conditions of R111 do not hold. Safe. -/
  | noSelection
  deriving DecidableEq, Repr

/-- Why a command has no meaning. -/
inductive Refusal where
  /-- A row without a meaning: raised by exec's refused arms alone (none at present). Safe. -/
  | notModelled (mnemonic : String)
  /-- A command that is no event of its row: its frame is empty or of another kind (Instr.wellFormed, log entry 9). Safe. -/
  | illFormed
  deriving DecidableEq, Repr

/-- The outcome of a command. -/
abbrev Result := Host.Outcome State Fault Refusal

end Sys2Proof.Machine
end

