-- ==== Sys2Proof/Machine/Flags.lean ====
section
/-! DEFINITION. Codes of enumerated values (9.7, R171, R191), the conditions the blocks read from a record, and the attention
path: the six counters with their saturation (R192), the raise of a notice line (R106) and the Fault Queue (R188). -/

namespace Sys2Proof.Machine

/-! ## Codes -/

/-- Reply status codes 0..10 (9.7). -/
def ReplyStatus.code : ReplyStatus → Nat
  | .ok => 0 | .noRoute => 1 | .boundary => 2 | .denied => 3 | .hopLimit => 4 | .fenced => 5
  | .branchDown => 6 | .timeout => 7 | .targetError => 8 | .aborted => 9 | .malformed => 10

/-- A REPLY's status as taken: codes 11..15 are taken as TARGET-ERROR (R29, R169). -/
def ReplyStatus.ofCode (c : BitVec 4) : ReplyStatus :=
  match c.toNat with
  | 0 => .ok | 1 => .noRoute | 2 => .boundary | 3 => .denied | 4 => .hopLimit | 5 => .fenced
  | 6 => .branchDown | 7 => .timeout | 8 => .targetError | 9 => .aborted | 10 => .malformed
  | _ => .targetError

/-- Control status codes 0..11 (9.7). -/
def ControlStatus.code : ControlStatus → Nat
  | .done => 0 | .busy => 1 | .already => 2 | .inUse => 3 | .overlap => 4 | .wrongState => 5
  | .notFenced => 6 | .badOperand => 7 | .badCommand => 8 | .aborted => 9 | .noPartner => 10 | .branchLost => 11

/-- Op codes 0..3 (9.7). -/
def Op.code : Op → BitVec 3
  | .read => 0 | .write => 1 | .postedWrite => 2 | .swap => 3

/-- The op a code names; codes 4..7 name none (R168). -/
def Op.ofCode (c : BitVec 3) : Option Op :=
  match c.toNat with
  | 0 => some .read | 1 => some .write | 2 => some .postedWrite | 3 => some .swap
  | _ => none

/-- A non-posted op as an op. -/
def NpOp.toOp : NpOp → Op
  | .read => .read | .write => .write | .swap => .swap

/-- An op as a non-posted op; a POSTED-WRITE is none. -/
def Op.nonPosted : Op → Option NpOp
  | .read => some .read | .write => some .write | .swap => some .swap | .postedWrite => none

/-- Window state codes (R171). -/
def WindowState.code : WindowState → Nat
  | .empty => 0 | .live => 1 | .retiring => 2

/-- Branch state codes, in the order of R76 (R171). -/
def BranchState.code : BranchState → Nat
  | .down => 0 | .training => 1 | .active => 2 | .draining => 3 | .fenced => 4 | .lent => 5 | .resetting => 6

/-- Trunk state codes (R186). -/
def TrunkState.code : TrunkState → Nat
  | .down => 0 | .training => 1 | .up => 2

/-- Line state codes (R171). -/
def LineState.code : LineState → Nat
  | .idle => 0 | .held => 1 | .pending => 2 | .delivered => 3

/-- Fault kind codes (R191). -/
def FaultKind.code : FaultKind → Nat
  | .duplicateTag => 0 | .creditOverrun => 1 | .strayReply => 2 | .lengthMismatch => 3 | .badNotice => 4
  | .unexpectedFrame => 5 | .postedDropped => 6 | .creditExcess => 7 | .branchLost => 8

/-- Loss cause codes (R191). -/
def LossCause.code : LossCause → Nat
  | .signalLost => 0 | .check => 1 | .partnerReset => 2 | .stall => 3 | .reset => 4

/-- A fault cause as carried (R191). -/
def FaultCause.code : FaultCause → Nat
  | .frameKind k => k.toNat
  | .refusal s => s.code
  | .loss c => c.code

/-- The command code of a long operation (R186). -/
def LongOp.code : LongOp → Nat
  | .retire _ => 3 | .fence _ => 7 | .reset _ => 9

/-- The object of a long operation (R186). -/
def LongOp.object : LongOp → Nat
  | .retire w => w.val | .fence b => b.val | .reset b => b.val

/-- Rights as a sum: 1 for READ, 2 for WRITE, 4 for SWAP, 8 for POSTED (R171). -/
def Rights.code (r : Rights) : Nat :=
  (if r.read then 1 else 0) + (if r.write then 2 else 0) + (if r.swap then 4 else 0) + (if r.posted then 8 else 0)

/-- The rights a sum 0..15 names (R171). -/
def Rights.ofCode (n : Nat) : Rights :=
  ⟨n.testBit 0, n.testBit 1, n.testBit 2, n.testBit 3⟩

/-- The right an op needs (R5). -/
def Rights.allows (r : Rights) : Op → Bool
  | .read => r.read | .write => r.write | .swap => r.swap | .postedWrite => r.posted

/-! ## Conditions -/

/-- A deadline is reached: it is not 1..2^31 - 1 microseconds ahead of the Time Base (R46). -/
def reached (deadline now : Time) : Bool :=
  let ahead := (deadline - now).toNat
  !(decide (1 ≤ ahead) && decide (ahead ≤ 2147483647))

/-- The branch states in which a port takes frames and sends link-control frames (R67, R77). -/
def BranchState.inService : BranchState → Bool
  | .active | .draining | .fenced | .lent => true
  | .down | .training | .resetting => false

/-- The branch states in which queued items are issued (R61). -/
def BranchState.issues : BranchState → Bool
  | .active | .draining => true
  | .down | .training | .fenced | .lent | .resetting => false

/-- The three conditions under which the stall timer runs (R71). -/
def Branch.stalled (br : Branch) : Bool :=
  !br.queue.isEmpty && decide (br.credit = 0) && br.state.issues

/-- The stall timer after an event: it keeps its deadline while the conditions go on holding, starts in the event that
makes them hold, and stops in the event that makes one fail (R71, R49). -/
def Branch.restall (now length : Time) (br : Branch) : Branch :=
  { br with stallTimer := if br.stalled then some (br.stallTimer.getD (now + length)) else none }

/-- An entry that is counted in its window: QUEUED or ISSUED (R21). -/
def Entry.counted : Entry → Option Held
  | .queued h _ => some h
  | .issued h _ => some h
  | .free | .answered _ _ | .linger _ _ => none

/-- An entry whose upstream tag is in use: QUEUED, ISSUED or ANSWERED (R24). -/
def Entry.tagHeld : Entry → Option Held
  | .queued h _ => some h
  | .issued h _ => some h
  | .answered h _ => some h
  | .free | .linger _ _ => none

/-- An ISSUED entry of branch `b` (R90, R93). -/
def Entry.issuedOn (b : BranchId) : Entry → Bool
  | .issued h _ => decide (h.branch = b)
  | .free | .queued _ _ | .answered _ _ | .linger _ _ => false

/-- A posted item routed through window `w` (R10, R59). -/
def Item.postedVia (w : WindowId) : Item → Bool
  | .posted v _ _ _ _ => decide (v = w)
  | .nonPosted _ => false

/-- A posted item (R59). -/
def Item.isPosted : Item → Bool
  | .posted _ _ _ _ _ => true
  | .nonPosted _ => false

/-- A delivery whose NOTICE waits to be sent (R115). -/
def Delivery.due (d : Delivery) : Bool :=
  match d.send with
  | .firstDue | .resendDue => true
  | .sent _ => false

/-- A control reply that holds its frame's credit (R148). -/
def ControlReply.isImmediate (c : ControlReply) : Bool := decide (c.kind = .immediate)

/-- A Reply that holds its request's credit (R138). -/
def Reply.isRefusal (r : Reply) : Bool := decide (r.origin = .refusal)

/-- The credits the part holds (R131). -/
def State.creditsHeld (s : State) : Nat :=
  s.intake.length + s.replyQ.countP Reply.isRefusal + s.ctlQ.countP ControlReply.isImmediate + s.acc

/-- The length of a timeout class in force (R26, R55). -/
def Timing.cls (t : Timing) (c : Fin 4) : Time :=
  match c with
  | 0 => t.cls0 | 1 => t.cls1 | 2 => t.cls2 | 3 => t.cls3

/-! ## Lines and counters -/

/-- The branch line (b, l) (R103). -/
def branchLine (b : BranchId) (l : Fin 8) : LineId := ⟨8 * b.val + l.val, by omega⟩

/-- The internal line Ik (R103). -/
def internalLine (k : Fin 8) : LineId := ⟨48 + k.val, by omega⟩

/-- The branch and line of a branch line; none for an internal line (R103). -/
def lineBranch (n : LineId) : Option (BranchId × Fin 8) :=
  if h : n.val < 48 then some (⟨n.val / 8, by omega⟩, ⟨n.val % 8, by omega⟩) else none

/-- An increment of a counter (R192): it holds at 65535. -/
def bump (n : Nat) : Nat := if n < Config.counterMax then n + 1 else n

/-- The increment that takes a counter to 65535 (R192). -/
def saturates (n : Nat) : Bool := decide (n + 1 = Config.counterMax)

/-- A raise at the line itself (R106). An enabled line is never HELD; one that were would be treated as disabled (log entry 22). -/
def Line.raise (ln : Line) : Line :=
  match ln.state with
  | .idle => { ln with state := if ln.enable then .pending else .held }
  | .held | .pending => ln
  | .delivered => { ln with again := true }

/-- A raise of the line is absorbed by its state (R106). -/
def Line.coalesces (ln : Line) : Bool := decide (ln.state ≠ .idle)

/-- Write line `n`. -/
def State.setLine (s : State) (n : LineId) (ln : Line) : State :=
  { s with lines := s.lines.set n ln }

/-- One more coalesced notice (R106). The saturating increment raises I6; that raise can increment no further, since the counter it
would increment is the one that has just saturated (R192). -/
def State.countCoalesced (s : State) : State :=
  let s' := { s with counters := { s.counters with coalesced := bump s.counters.coalesced } }
  if saturates s.counters.coalesced then s'.setLine (internalLine 6) s'.lines[internalLine 6].raise else s'

/-- A line is raised (R106). -/
def State.raise (n : LineId) (s : State) : State :=
  let s' := s.setLine n s.lines[n].raise
  if s.lines[n].coalesces then s'.countCoalesced else s'

/-- An internal line is raised (R108). -/
def State.raiseInternal (k : Fin 8) (s : State) : State := s.raise (internalLine k)

/-- A counter reached 65535 in this event, or did not (R192). -/
def State.signalIf (saturated : Bool) (s : State) : State :=
  if saturated then s.raiseInternal 6 else s

/-- One more late reply (R32, R33). -/
def State.countLate (s : State) : State :=
  State.signalIf (saturates s.counters.lateReplies)
    { s with counters := { s.counters with lateReplies := bump s.counters.lateReplies } }

/-- One more stray acknowledge (R118). -/
def State.countStrayAck (s : State) : State :=
  State.signalIf (saturates s.counters.strayAcks)
    { s with counters := { s.counters with strayAcks := bump s.counters.strayAcks } }

/-- One more notice resend (R116). -/
def State.countResend (s : State) : State :=
  State.signalIf (saturates s.counters.resends)
    { s with counters := { s.counters with resends := bump s.counters.resends } }

/-- One more trunk reset (R164). -/
def State.countTrunkReset (s : State) : State :=
  State.signalIf (saturates s.counters.trunkResets)
    { s with counters := { s.counters with trunkResets := bump s.counters.trunkResets } }

/-- One more dropped fault record (R188). -/
def State.countOverflow (s : State) : State :=
  State.signalIf (saturates s.counters.faultOverflows)
    { s with counters := { s.counters with faultOverflows := bump s.counters.faultOverflows } }

/-- A fault record is made (R188): appended with a raise of I0, or dropped, counted, with a raise of I5. -/
def State.recordFault (f : FaultRecord) (s : State) : State :=
  if s.faults.length < Config.faultCapacity then
    State.raiseInternal 0 { s with faults := s.faults ++ [f] }
  else
    s.countOverflow.raiseInternal 5

end Sys2Proof.Machine
end

