-- ==== Sys2Proof/Machine/Link.lean ====
section
/-! DEFINITION. The fields of a received frame, read from its words (R158, R168 to R173 and the layouts of 9.7).
Bits that a layout marks zero are read by no function here, so they are ignored (R173). -/

namespace Sys2Proof.Frame

/-- The first word. -/
def header (f : Frame) : Word := f.headD 0

/-- The kind code, bits 31..28 of the first word (R158). -/
def kind (f : Frame) : BitVec 4 := (header f).extractLsb' 28 4

/-- The words after the first. -/
def body (f : Frame) : List Word := f.tail

/-- The kinds of one word: NOTICE, NOTICE-ACK or RELEASE, CREDIT, WITHDRAW, RETURN, GRANT, RECLAIM (R158). -/
def oneWordKind (k : BitVec 4) : Bool := [3, 4, 5, 8, 9, 10, 11].contains k

/-- The size limits of R158: a frame outside them is treated as failing its check. -/
def sizeOk (f : Frame) : Bool :=
  decide (1 ≤ f.length) && decide (f.length ≤ 32) &&
  (kind f != 1 || decide (2 ≤ f.length)) && (!oneWordKind (kind f) || decide (f.length = 1))

/-- The frame has a first word and its kind is one of `ks`. -/
def isOneOf (f : Frame) (ks : List (BitVec 4)) : Bool := !f.isEmpty && ks.contains (kind f)

/-- REQUEST, bits 27..25. -/
def requestOp (f : Frame) : BitVec 3 := (header f).extractLsb' 25 3

/-- REQUEST, bits 24..19. -/
def requestTag (f : Frame) : BitVec 6 := (header f).extractLsb' 19 6

/-- REQUEST, bits 18..14. -/
def requestLength (f : Frame) : BitVec 5 := (header f).extractLsb' 14 5

/-- REQUEST, bits 13..11. -/
def requestHop (f : Frame) : BitVec 3 := (header f).extractLsb' 11 3

/-- REQUEST, the second word. -/
def requestAddress (f : Frame) : Word := (body f).headD 0

/-- REQUEST, the words after the address; their number is the data count (R168). -/
def requestData (f : Frame) : List Word := (body f).tail

/-- REPLY, bits 27..24. -/
def replyStatus (f : Frame) : BitVec 4 := (header f).extractLsb' 24 4

/-- REPLY, bits 23..18. -/
def replyTag (f : Frame) : BitVec 6 := (header f).extractLsb' 18 6

/-- REPLY, the words after the header (R169). -/
def replyData (f : Frame) : List Word := body f

/-- NOTICE and NOTICE-ACK, bits 7..0: a line number or a vector (R170). -/
def lineOrVector (f : Frame) : BitVec 8 := (header f).extractLsb' 0 8

/-- CREDIT, the count 1..16, carried less one in bits 3..0 (R172). -/
def creditCount (f : Frame) : Nat := ((header f).extractLsb' 0 4).toNat + 1

/-- CONTROL, bits 27..20. -/
def sequence (f : Frame) : BitVec 8 := (header f).extractLsb' 20 8

/-- CONTROL, bits 19..12. -/
def command (f : Frame) : BitVec 8 := (header f).extractLsb' 12 8

/-- CONTROL, the words after the header, one operand each (R171). -/
def operands (f : Frame) : List Word := body f

/-- Kinds carried down the trunk to an owner: REQUEST, NOTICE-ACK, CREDIT, CONTROL (R165). -/
def trunkKinds : List (BitVec 4) := [1, 4, 5, 7]

/-- Kinds carried up a branch: REPLY, NOTICE, CREDIT, WITHDRAW, RETURN (9.5). -/
def branchKinds : List (BitVec 4) := [2, 3, 5, 8, 9]

/-- The kinds a port does not take, unknown codes 0 and 12..15 among them (R165, R167). -/
def isNoneOf (f : Frame) (ks : List (BitVec 4)) : Bool := !f.isEmpty && !ks.contains (kind f)

end Sys2Proof.Frame
end

