-- ==== Sys2Proof/Machine/Operands.lean ====
section
/-! DEFINITION. What the part reads from frames: the request and the control frame of the intake (R168, R171), the operands of
each command with their ranges (R11, R48, R123, R179), and the well-formedness of a request (R134). -/

namespace Sys2Proof.Machine

/-! ## Frames of the intake -/

/-- A REQUEST read from its words (R168). -/
def Request.ofFrame (f : Frame) : Request :=
  { op := Frame.requestOp f, tag := Frame.requestTag f, length := Frame.requestLength f, hop := Frame.requestHop f,
    address := Frame.requestAddress f, data := Frame.requestData f }

/-- A CONTROL frame read from its words (R171). -/
def Control.ofFrame (f : Frame) : Control :=
  { seq := Frame.sequence f, command := Frame.command f, operands := Frame.operands f }

/-- The frame the intake takes: kind 1 is a REQUEST, the other kind admitted is CONTROL (R131). -/
def IntakeFrame.ofFrame (f : Frame) : IntakeFrame :=
  if Frame.kind f = 1 then .request (.ofFrame f) else .control (.ofFrame f)

/-! ## Requests -/

/-- The request is a POSTED-WRITE; an unknown op code is treated as non-posted (R134). -/
def Request.isPosted (r : Request) : Bool := decide (Op.ofCode r.op = some .postedWrite)

/-- The number of data words an op of this length carries (R134, R168). -/
def Op.dataWords (o : Op) (length : Nat) : Nat :=
  match o with
  | .read => 0
  | .write | .postedWrite => length
  | .swap => 1

/-- The request fails the well-formedness check (R134). -/
def Request.malformed (r : Request) : Bool :=
  match Op.ofCode r.op with
  | none => true
  | some o =>
    decide (r.length = 0) || decide (16 < r.length.toNat) || (decide (o = .swap) && decide (r.length ≠ 1)) ||
    decide (r.address.toNat % 4 ≠ 0) || decide (r.data.length ≠ o.dataWords r.length.toNat)

/-- The data words a matched OK reply must carry (R30). -/
def Held.replyWords (h : Held) : Nat :=
  match h.op with
  | .read => h.length.toNat
  | .swap => 1
  | .write => 0

/-! ## Operands of commands -/

/-- A single operand below `n` (R13, R14, R94, R96, R125). -/
def oneBelow (n : Nat) : List Word → Option (Fin n)
  | [w] => if h : w.toNat < n then some ⟨w.toNat, h⟩ else none
  | _ => none

/-- The operands of LOAD-WINDOW, in page units (1.4). -/
structure LoadWindowOperands where
  index : WindowId
  basePage : Nat
  sizePages : Nat
  branch : BranchId
  targetPage : Nat
  rights : Rights
  cls : Fin 4
  deriving DecidableEq, Repr

/-- The operands of LOAD-WINDOW when all are in range (R11). -/
def LoadWindowOperands.read : List Word → Option LoadWindowOperands
  | [i, bp, sp, br, tp, ri, c] =>
    if h : i.toNat < 32 ∧ br.toNat < 6 ∧ c.toNat < 4 then
      if bp.toNat < Config.addressPages ∧ 1 ≤ sp.toNat ∧ bp.toNat + sp.toNat ≤ Config.addressPages ∧
          tp.toNat + sp.toNat ≤ Config.addressPages ∧ ri.toNat < 16 then
        some ⟨⟨i.toNat, h.1⟩, bp.toNat, sp.toNat, ⟨br.toNat, h.2.1⟩, tp.toNat, Rights.ofCode ri.toNat, ⟨c.toNat, h.2.2⟩⟩
      else none
    else none
  | _ => none

/-- The window record that LOAD-WINDOW places (R12, 1.4 note 1). -/
def LoadWindowOperands.window (o : LoadWindowOperands) : Window :=
  { state := .live, base := o.basePage * Config.pageBytes, size := o.sizePages * Config.pageBytes, branch := o.branch,
    target := o.targetPage * Config.pageBytes, rights := o.rights, cls := o.cls, inFlight := 0 }

/-- The operands of LOAD-LINE (6.6). -/
structure LoadLineOperands where
  line : LineId
  enable : Bool
  priority : BitVec 3
  vector : BitVec 8
  release : Bool
  deriving DecidableEq, Repr

/-- The operands of LOAD-LINE when all are in range; the release of an internal line is taken as off (R123). -/
def LoadLineOperands.read : List Word → Option LoadLineOperands
  | [n, en, p, v, re] =>
    if h : n.toNat < 56 then
      if en.toNat < 2 ∧ p.toNat < 8 ∧ v.toNat < 256 ∧ re.toNat < 2 then
        some ⟨⟨n.toNat, h⟩, decide (en.toNat = 1), BitVec.ofNat 3 p.toNat, BitVec.ofNat 8 v.toNat,
          decide (re.toNat = 1) && decide (n.toNat < 48)⟩
      else none
    else none
  | _ => none

/-- A duration operand lies in its range. -/
def inRange (lo hi : Nat) (w : Word) : Bool := decide (lo ≤ w.toNat) && decide (w.toNat ≤ hi)

/-- The six operands of SET-TIMING when all are in range (R48). -/
def Timing.read : List Word → Option Timing
  | [c0, c1, c2, c3, r, st] =>
    if inRange 1 16777215 c0 && inRange 1 16777215 c1 && inRange 1 16777215 c2 && inRange 1 16777215 c3 &&
        inRange 100 1000000 r && inRange 1000 16000000 st then
      some ⟨c0, c1, c2, c3, r, st⟩
    else none
  | _ => none

/-- The operands of FENCE-BRANCH: branch, lend (R90). -/
def fenceOperands : List Word → Option (BranchId × Bool)
  | [b, l] =>
    if h : b.toNat < 6 then
      if l.toNat < 2 then some (⟨b.toNat, h⟩, decide (l.toNat = 1)) else none
    else none
  | _ => none

/-- The operand of TAKE-FAULTS, 1..8 (R190). -/
def takeFaultsOperand : List Word → Option Nat
  | [n] => if inRange 1 8 n then some n.toNat else none
  | _ => none

end Sys2Proof.Machine
end

