-- ==== Sys2Proof/Machine/Ops.lean ====
section
/-! DEFINITION. The named operations that the meanings share: writing one record, placing replies, completing long operations
(R183), settling windows and drains (R17, R93), branch loss (R82 to R85), trunk reset (R164), the arbiters' choices
(R67, R112, R151), and the passing of a microsecond (R44). -/

namespace Sys2Proof.Machine

/-! ## One record -/

/-- Write entry `e`. -/
def State.setEntry (s : State) (e : EntryId) (x : Entry) : State :=
  { s with entries := s.entries.set e x }

/-- Write window `w`. -/
def State.setWindow (s : State) (w : WindowId) (x : Window) : State :=
  { s with windows := s.windows.set w x }

/-- Write branch `b`; its stall timer follows the conditions of R71 in the same event. -/
def State.setBranch (s : State) (b : BranchId) (br : Branch) : State :=
  { s with branches := s.branches.set b (br.restall s.timeBase s.timing.stall) }

/-- One intake credit is returned to the accumulator (R142). -/
def State.returnCredit (s : State) : State := { s with acc := s.acc + 1 }

/-- A Reply is placed at the tail of the Reply Queue (R146). -/
def State.placeReply (r : Reply) (s : State) : State := { s with replyQ := s.replyQ ++ [r] }

/-- Apply `f` to the first record that satisfies `p`; the records keep their order. -/
def updateFirst (p : Delivery → Bool) (f : Delivery → Delivery) : List Delivery → List Delivery
  | [] => []
  | d :: ds => if p d then f d :: ds else d :: updateFirst p f ds

/-! ## Answers to control frames -/

/-- A CONTROL frame is answered at once: an IMMEDIATE record is placed (R148, R177). -/
def State.answerNow (c : Control) (st : ControlStatus) (result : List Word) (s : State) : State :=
  { s with ctlQ := s.ctlQ ++ [⟨c.seq, st, result, .immediate⟩] }

/-- A long command is accepted: its record is appended and its credit returned (R141, R181). -/
def State.accept (c : Control) (op : LongOp) (s : State) : State :=
  { s with pcl := s.pcl ++ [⟨c.seq, op, s.timeBase⟩], acc := s.acc + 1 }

/-- The long operations to which `f` gives a status are completed: their COMPLETION records are placed in the order of
the Pending Control List and their records leave together (R183). -/
def State.complete (f : LongOp → Option ControlStatus) (s : State) : State :=
  { s with
    pcl := s.pcl.filter fun r => (f r.op).isNone
    ctlQ := s.ctlQ ++ s.pcl.filterMap fun r => (f r.op).map fun st => ⟨r.seq, st, [], .completion⟩ }

/-! ## Windows and drains -/

/-- A RETIRING window whose count is 0 (R17). -/
def Window.drained (w : Window) : Bool := decide (w.state = .retiring) && decide (w.inFlight = 0)

/-- Some entry of branch `b` is ISSUED. -/
def State.hasIssued (s : State) (b : BranchId) : Bool :=
  (List.finRange 48).any fun e => s.entries[e].issuedOn b

/-- The branch holds work: its queue is not empty or some entry of it is ISSUED (R90). -/
def State.holdsWork (s : State) (b : BranchId) : Bool :=
  !s.branches[b].queue.isEmpty || s.hasIssued b

/-- A DRAINING branch that holds no work (R93). -/
def State.drained (s : State) (b : BranchId) : Bool :=
  decide (s.branches[b].state = .draining) && !s.holdsWork b

/-- The branch enters FENCED, or LENT with GRANT wanted and the withdraw flag cleared (R91). -/
def Branch.enterFence (lend : Bool) (br : Branch) : Branch :=
  if lend then { br with state := .lent, lendWanted := .granted, withdraw := false } else { br with state := .fenced }

/-- A drain ends as its drain lend says, and drain lend becomes no (R93). -/
def Branch.endDrain (br : Branch) : Branch :=
  { br.enterFence br.drainLend with drainLend := false }

/-- The count of each window is lowered by `n` (R9). -/
def State.uncount (n : WindowId → Nat) (s : State) : State :=
  { s with windows := Vector.ofFn fun w => { s.windows[w] with inFlight := s.windows[w].inFlight - n w } }

/-- The count of one window is lowered by 1 (R9). -/
def State.uncountOne (w : WindowId) (s : State) : State := s.uncount fun v => if v = w then 1 else 0

/-- The count of one window is raised by 1 (R8). -/
def State.countIn (w : WindowId) (s : State) : State :=
  s.setWindow w { s.windows[w] with inFlight := s.windows[w].inFlight + 1 }

/-- The long operations that end with the windows of `doneW` and the fences that `fence` gives a status (R183). -/
def ended (doneW : WindowId → Bool) (fence : BranchId → Option ControlStatus) : LongOp → Option ControlStatus
  | .retire w => if doneW w then some .done else none
  | .fence b => fence b
  | .reset _ => none

/-- The windows of `doneW` are retired, becoming EMPTY with their fields zero (R1, R17), and the retires and the fences that
`fence` gives a status are completed (R183). -/
def State.finish (doneW : WindowId → Bool) (fence : BranchId → Option ControlStatus) (s : State) : State :=
  State.complete (ended doneW fence)
    { s with windows := Vector.ofFn fun w => if doneW w then Window.blank else s.windows[w] }

/-- The retires of the windows of `ws` that have drained and the drains of the branches of `bs` that hold no work complete,
within the event that brought them there (R17, R93). -/
def State.settle (ws : WindowId → Bool) (bs : BranchId → Bool) (s : State) : State :=
  State.finish (fun w => ws w && s.windows[w].drained) (fun b => if bs b && s.drained b then some .done else none)
    { s with branches := Vector.ofFn fun b =>
        if bs b && s.drained b then s.branches[b].endDrain.restall s.timeBase s.timing.stall else s.branches[b] }

/-! ## Answering entries -/

/-- An ISSUED entry is answered: ANSWERED with the given flag, its window uncounted, its Reply placed; a retire or a drain that this
ends completes in the same event (R28, R34, R36). -/
def State.answerEntry (e : EntryId) (h : Held) (outstanding : Bool) (st : ReplyStatus) (data : List Word) (s : State) : State :=
  State.settle (fun w => decide (w = h.window)) (fun b => decide (b = h.branch))
    (State.uncountOne h.window
      (State.placeReply ⟨h.tag, st, data, .entry e⟩ (s.setEntry e (.answered h outstanding))))

/-- The counted work of window `w` on the branches of `p`: its QUEUED and ISSUED entries and its posted items (R10). -/
def State.workVia (s : State) (p : BranchId → Bool) (w : WindowId) : Nat :=
  (List.finRange 48).countP (fun e => match s.entries[e].counted with
    | some h => p h.branch && decide (h.window = w)
    | none => false) +
  ((List.finRange 6).map fun b => if p b then s.branches[b].queue.countP (Item.postedVia w) else 0).sum

/-- The Replies owed to the QUEUED and ISSUED entries of the branches of `p`, in ascending order of entry index (R37, R39). -/
def State.owed (s : State) (p : BranchId → Bool) (st : ReplyStatus) : List Reply :=
  (List.finRange 48).filterMap fun e => match s.entries[e].counted with
    | some h => if p h.branch then some ⟨h.tag, st, [], .entry e⟩ else none
    | none => none

/-! ## Branch loss -/

/-- An entry at the loss of branch `b` (R39). -/
def Entry.lose (b : BranchId) (x : Entry) : Entry :=
  match x with
  | .free => .free
  | .queued h d => if h.branch = b then .answered h false else .queued h d
  | .issued h d => if h.branch = b then .answered h false else .issued h d
  | .answered h o => if h.branch = b then .answered h false else .answered h o
  | .linger h d => if h.branch = b then .free else .linger h d

/-- A line of a lost branch (R83). -/
def Line.lose (ln : Line) : Line :=
  match ln.state with
  | .delivered => { ln with again := false }
  | .idle | .held | .pending => { ln with state := .idle }

/-- The line belongs to branch `b` (R103). -/
def onBranch (b : BranchId) (n : LineId) : Bool :=
  match lineBranch n with
  | some (c, _) => decide (c = b)
  | none => false

/-- The port of a lost branch, its state apart: queue, credit, link-control state, withdraw flag and drain lend cleared, the
frame being sent cut off, the capacity kept (R70, R73, R81, R82). -/
def Branch.lose (br : Branch) : Branch :=
  { br with
    queue := [], credit := 0, stallTimer := none, releaseMarks := Vector.replicate 8 false, lendWanted := .notGranted,
    lendTold := .notGranted, withdraw := false, drainLend := false, tx := none }

/-- The state of a link out of service: TRAINING while the partner signal is present (R81). -/
def Branch.outOfService (br : Branch) : BranchState := if br.partner then .training else .down

/-- A window that the loss of branch `b` drains: RETIRING, and the loss takes its last counted work (R17, R82). -/
def State.drainedByLoss (s : State) (b : BranchId) (w : WindowId) : Bool :=
  let gone := s.workVia (fun c => decide (c = b))
  decide (0 < gone w) && (s.uncount gone).windows[w].drained

/-- A fence pending on a lost branch ends BRANCH-LOST (R84). -/
def lostFence (b c : BranchId) : Option ControlStatus := if c = b then some .branchLost else none

/-- The long operations that a loss of branch `b` ends (R84). -/
def State.endedByLoss (s : State) (b : BranchId) : LongOp → Option ControlStatus := ended (s.drainedByLoss b) (lostFence b)

/-- The work held for branch `b` is settled as a loss settles it (R82, R83), the port going to state `st`; retires that this ends
complete DONE and a fence pending on `b` completes BRANCH-LOST (R84). -/
def State.lose (b : BranchId) (st : BranchState) (s : State) : State :=
  State.finish (s.drainedByLoss b) (lostFence b) (State.uncount (s.workVia fun c => decide (c = b))
    { s with
      replyQ := s.replyQ ++ s.owed (fun c => decide (c = b)) .branchDown
      entries := Vector.ofFn fun e => s.entries[e].lose b
      lines := Vector.ofFn fun n => if onBranch b n then s.lines[n].lose else s.lines[n]
      branches := s.branches.set b { s.branches[b].lose with state := st } })

/-- The posted items that a loss of branch `b` removes (R73). -/
def State.postedHeld (s : State) (b : BranchId) : Nat := s.branches[b].queue.countP Item.isPosted

/-- The BRANCH-LOST record (R85). -/
def State.lossRecord (s : State) (b : BranchId) (cause : LossCause) : FaultRecord :=
  { kind := .branchLost, timestamp := s.timeBase, branch := some b, cause := some (.loss cause),
    count := some (s.postedHeld b) }

/-- The port sends the reset sequence, which cuts off the frame being sent (R161). -/
def Branch.sendReset (br : Branch) : Branch := { br with resetSeqs := br.resetSeqs + 1, tx := none }

/-- Branch `b` is lost by a cause of R81: the work is settled, I1 is raised and the record made (R82 to R85). -/
def State.lossBy (b : BranchId) (cause : LossCause) (s : State) : State :=
  State.recordFault (s.lossRecord b cause)
    (State.raiseInternal 1 (s.lose b s.branches[b].outOfService))

/-- Branch `b` takes a frame that fails its check: a loss with the reset sequence in service, a restart of training, which
changes no state held here, otherwise (R80, R81, R98, R158). -/
def State.branchCheckFails (b : BranchId) (s : State) : State :=
  if s.branches[b].state.inService then State.lossBy b .check (s.setBranch b s.branches[b].sendReset) else s

/-! ## Trunk reset -/

/-- An entry at a trunk reset (R40). -/
def Entry.trunkReset (now : Time) (t : Timing) (x : Entry) : Entry :=
  match x with
  | .free => .free
  | .queued _ _ => .free
  | .issued h _ => .linger h (now + t.cls h.cls)
  | .answered h true => .linger h (now + t.cls h.cls)
  | .answered _ false => .free
  | .linger h d => .linger h d

/-- A window at a trunk reset (R19). -/
def Window.trunkReset (w : Window) : Window :=
  match w.state with
  | .retiring => Window.blank
  | .live | .empty => { w with inFlight := 0 }

/-- A port at a trunk reset (R75, R102). -/
def Branch.trunkReset (br : Branch) : Branch :=
  match br.state with
  | .draining => { br with queue := [], state := .fenced, drainLend := false }
  | .down | .training | .active | .fenced | .lent | .resetting => { br with queue := [] }

/-- A line at a trunk reset (R126). -/
def Line.trunkReset (ln : Line) : Line :=
  match ln.state with
  | .delivered => { ln with state := .pending, again := false }
  | .idle | .held | .pending => ln

/-- The trunk leaves UP: every block takes its share (R164). `sends` is set when the cause is CHECK. -/
def State.trunkReset (sends : Bool) (s : State) : State :=
  State.countTrunkReset
    { s with
      trunk := { s.trunk with
        state := if s.trunk.partner then .training else .down
        restored := true
        tx := none
        pointer := .control
        resetSeqs := if sends then s.trunk.resetSeqs + 1 else s.trunk.resetSeqs }
      intake := []
      acc := 0
      replyQ := []
      ctlQ := []
      pcl := []
      deliveries := []
      entries := Vector.ofFn fun e => s.entries[e].trunkReset s.timeBase s.timing
      windows := Vector.ofFn fun w => s.windows[w].trunkReset
      branches := Vector.ofFn fun b => s.branches[b].trunkReset.restall s.timeBase s.timing.stall
      lines := Vector.ofFn fun n => s.lines[n].trunkReset }

/-- The trunk takes a frame that fails its check: a trunk reset in UP, a restart of training, which changes no state held here,
in TRAINING (R158, R162). -/
def State.trunkCheckFails (s : State) : State :=
  if s.trunk.state = .up then s.trunkReset true else s

/-! ## Clearing the path -/

/-- An entry at CLEAR-PATH (R37). -/
def Entry.clear (x : Entry) : Entry :=
  match x with
  | .queued h _ => .answered h false
  | .issued h _ => .answered h true
  | .free => .free
  | .answered h o => .answered h o
  | .linger h d => .linger h d

/-- Steps 1 to 4 of CLEAR-PATH (R195). -/
def State.clearPath (s : State) : State :=
  State.settle (fun _ => true) (fun _ => true)
    { s with
      replyQ := s.replyQ ++ s.owed (fun _ => true) .aborted
      entries := Vector.ofFn fun e => s.entries[e].clear
      windows := Vector.ofFn fun w => { s.windows[w] with inFlight := 0 }
      branches := Vector.ofFn fun b =>
        { s.branches[b] with queue := [] }.restall s.timeBase s.timing.stall }

/-! ## The Trunk Transmit Arbiter -/

/-- What the arbiter may send. -/
inductive TrunkChoice where
  | control | credit | reply | notice
  deriving DecidableEq, Repr

/-- The source has something to send (R150). -/
def State.offers (s : State) : Source → Bool
  | .control => !s.ctlQ.isEmpty
  | .reply => !s.replyQ.isEmpty
  | .notice => s.deliveries.any Delivery.due

/-- The source that follows in the rotation (R151). -/
def Source.next : Source → Source
  | .control => .reply
  | .reply => .notice
  | .notice => .control

/-- A source as a choice. -/
def Source.choice : Source → TrunkChoice
  | .control => .control
  | .reply => .reply
  | .notice => .notice

/-- What the arbiter sends now: nothing unless the trunk is UP and the transmitter FREE (R150), else the first that applies of
a waiting COMPLETION, a pending credit, and the rotation from the pointer (R151). -/
def State.trunkChoice (s : State) : Option TrunkChoice :=
  if s.trunk.state ≠ .up ∨ s.trunk.tx ≠ none then none
  else if s.ctlQ.any (fun c => decide (c.kind = .completion)) then some .control
  else if 0 < s.acc then some .credit
  else
    let p := s.trunk.pointer
    ([p, p.next, p.next.next].find? s.offers).map Source.choice

/-- The transmitter takes a frame, and the pointer its new value. -/
def State.transmit (f : TrunkFrame) (p : Source) (s : State) : State :=
  { s with trunk := { s.trunk with tx := some f, pointer := p } }

/-! ## The branch transmitter -/

/-- What a Branch Port may send (R67). -/
inductive BranchChoice where
  | grant
  | reclaim
  | release (l : Fin 8)
  | issue (i : Item)
  deriving DecidableEq, Repr

/-- What the port sends now (R61, R67). -/
def Branch.choice (br : Branch) : Option BranchChoice :=
  if br.tx ≠ none ∨ br.state.inService = false then none
  else if br.lendWanted ≠ br.lendTold then
    some (match br.lendWanted with | .granted => .grant | .notGranted => .reclaim)
  else
    match (List.finRange 8).find? (fun l => br.releaseMarks[l]) with
    | some l => some (.release l)
    | none =>
      match br.queue with
      | i :: _ => if br.state.issues && decide (0 < br.credit) then some (.issue i) else none
      | [] => none

/-- The port issues its head item in frame `f`: the item leaves the queue and one credit is used (R61, R65). -/
def Branch.issue (f : BranchFrame) (br : Branch) : Branch :=
  { br with queue := br.queue.tail, credit := br.credit - 1, tx := some f }

/-! ## The Notice Arbiter -/

/-- The line the arbiter chooses: branch lines before internal lines, then the highest priority, then the lowest number (R112). -/
def State.chosenLine (s : State) : Option LineId :=
  let waiting := (List.finRange 56).filter fun n => decide (s.lines[n].state = .pending)
  let ofBranches := waiting.filter fun n => decide (n.val < 48)
  let group := if ofBranches.isEmpty then waiting else ofBranches
  group.find? fun n => group.all fun m => decide (s.lines[m].priority.toNat ≤ s.lines[n].priority.toNat)

/-- A line whose record an acknowledge removed (R119). -/
def Line.acknowledge (ln : Line) : Line :=
  { ln with state := if ln.again then .pending else .idle, again := false }

/-- The release mark of a branch line is set when its release field is on and its branch is in service (R68, R119). -/
def State.markRelease (n : LineId) (s : State) : State :=
  match lineBranch n with
  | some (b, l) =>
    if s.lines[n].release && s.branches[b].state.inService then
      s.setBranch b { s.branches[b] with releaseMarks := s.branches[b].releaseMarks.set l true }
    else s
  | none => s

/-! ## Frames received -/

/-- A command brings a frame that is of its row when `isRow`: a frame of the wrong size is taken as failing its check (R158),
another is taken by `good`. -/
def takeFrame (isRow : Bool) (f : Frame) (checkFails good : State → State) (s : State) : Result :=
  if isRow then .next (if f.sizeOk then good s else checkFails s) else .refused .illFormed

/-! ## Time -/

/-- A microsecond passes: the Time Base advances unless the part is held in power-on reset (R44). -/
def State.tick (s : State) : State := if s.porst then s else { s with timeBase := s.timeBase + 1 }

/-- The part presents its own partner signal on every link exactly while it is out of power-on reset (R157). -/
def State.presentsPartner (s : State) : Bool := !s.porst

/-- The capacity the part announces on the trunk: 8 while the trunk trains (R159). -/
def Trunk.announces (t : Trunk) : Option Nat :=
  match t.state with
  | .training => some 8
  | .down | .up => none

/-- The capacity the part announces on a branch: 0 while the link trains, in TRAINING and in RESETTING while the partner signal is
present (R98, R159). -/
def Branch.announces (br : Branch) : Option Nat :=
  match br.state with
  | .training => some 0
  | .resetting => if br.partner then some 0 else none
  | .down | .active | .draining | .fenced | .lent => none

end Sys2Proof.Machine
end

