-- ==== Sys2Proof/Machine/Frames.lean ====
section
/-! DEFINITION. The words of the frames the part sends (9.7, R168 to R173) and the results of the reading commands, one value to
a word (R13, R125, R171, R186, R191, R194). -/

namespace Sys2Proof.Machine

/-! ## Frames sent -/

/-- A REQUEST header: kind 1, op, tag, length, hop budget, zeros (9.7). -/
def requestHeader (op : BitVec 3) (tag : BitVec 6) (length : BitVec 5) (hop : BitVec 3) : Word :=
  1#4 ++ op ++ tag ++ length ++ hop ++ 0#11

/-- A one-word frame with an 8-bit field: NOTICE, RELEASE (R170). -/
def byteFrame (kind : BitVec 4) (v : BitVec 8) : Word := kind ++ 0#20 ++ v

/-- The words of a frame on a branch (R168, R170, R172). -/
def BranchFrame.words : BranchFrame → List Word
  | .request op tag address length hop data => requestHeader op.code tag length hop :: address :: data
  | .release l => [byteFrame 4 (BitVec.ofNat 8 l.val)]
  | .grant => [10#4 ++ 0#28]
  | .reclaim => [11#4 ++ 0#28]

/-- The words of a frame on the trunk (R169 to R172). -/
def TrunkFrame.words : TrunkFrame → List Word
  | .reply tag st data => (2#4 ++ BitVec.ofNat 4 st.code ++ tag ++ 0#18) :: data
  | .controlReply seq st result => (6#4 ++ seq ++ BitVec.ofNat 4 st.code ++ 0#16) :: result
  | .notice v => [byteFrame 3 v]
  | .credit n => [5#4 ++ 0#24 ++ BitVec.ofNat 4 (n - 1)]

/-- The REQUEST frame of an entry: its index as tag, with its write data (R26, R168). -/
def Held.request (h : Held) (e : EntryId) (data : List Word) : BranchFrame :=
  .request h.op.toOp (BitVec.ofNat 6 e.val) h.address h.length h.hop data

/-- The REPLY frame of a Reply record: data with status OK alone (R152, R169). -/
def Reply.frame (r : Reply) : TrunkFrame :=
  .reply r.tag r.status (if r.status = .ok then r.data else [])

/-- The CONTROL-REPLY frame of a record (R153). -/
def ControlReply.frame (c : ControlReply) : TrunkFrame := .controlReply c.seq c.status c.result

/-! ## Results of the reading commands -/

/-- READ-WINDOW: state, base page, size pages, branch, target page, rights, class, count (R13). -/
def Window.report (w : Window) : List Word :=
  [word w.state.code, word (w.base / Config.pageBytes), word (w.size / Config.pageBytes), word w.branch.val,
   word (w.target / Config.pageBytes), word w.rights.code, word w.cls.val, word w.inFlight]

/-- The delivery items of READ-LINE: record vector, resend count, position 1..4; absent without a record (R125). -/
def State.deliveryReport (s : State) (n : LineId) : List Word :=
  match s.deliveries.find? (fun d => decide (d.line = n)) with
  | some d => [word d.vector.toNat, word d.resends, word (s.deliveries.findIdx (fun d => decide (d.line = n)) + 1)]
  | none => []

/-- READ-LINE: enable, priority, vector, release, state, again flag, and the delivery items of a DELIVERED line (R125). -/
def State.lineReport (s : State) (n : LineId) : List Word :=
  let ln := s.lines[n]
  [flagWord ln.enable, word ln.priority.toNat, word ln.vector.toNat, flagWord ln.release, word ln.state.code,
   flagWord ln.again] ++ (if ln.state = .delivered then s.deliveryReport n else [])

/-- The stage of an entry as a number, in the order of R186. -/
def Entry.stage : Entry → Nat
  | .free => 0 | .queued _ _ => 1 | .issued _ _ => 2 | .answered _ _ => 3 | .linger _ _ => 4

/-- The number of entries in a stage (R21, R186). -/
def State.stageCount (s : State) (n : Nat) : Nat := (List.finRange 48).countP fun e => decide (s.entries[e].stage = n)

/-- The five items of a branch: state, credit, capacity, queue depth, withdraw flag (R186). -/
def Branch.report (br : Branch) : List Word :=
  [word br.state.code, word br.credit, word br.capacity, word br.queue.length, flagWord br.withdraw]

/-- The four items of a Pending Control List record (R186). -/
def PendingControl.report (r : PendingControl) : List Word :=
  [word r.seq.toNat, word r.op.code, word r.op.object, r.accepted]

/-- The six counters in order (R186). -/
def Counters.report (c : Counters) : List Word :=
  [word c.lateReplies, word c.coalesced, word c.strayAcks, word c.resends, word c.trunkResets, word c.faultOverflows]

/-- READ-STATUS (R186). -/
def State.statusReport (s : State) : List Word :=
  [word s.trunk.state.code] ++ ((List.finRange 6).map fun b => s.branches[b].report).flatten ++
  [word (s.stageCount 0), word (s.stageCount 1), word (s.stageCount 2), word (s.stageCount 3), word (s.stageCount 4)] ++
  [word s.intake.length, word s.pcl.length] ++ (s.pcl.map PendingControl.report).flatten ++
  s.counters.report ++ [word s.faults.length, s.timeBase]

/-- A present field as its one word, an absent one as none (R191). -/
def fieldWords (x : Option Nat) : List Word := (x.map word).toList

/-- The presence sum: 1 branch, 2 upstream tag, 4 downstream tag, 8 address, 16 cause, 32 count (R191). -/
def FaultRecord.presence (f : FaultRecord) : Nat :=
  (if f.branch.isSome then 1 else 0) + (if f.upTag.isSome then 2 else 0) + (if f.downTag.isSome then 4 else 0) +
  (if f.address.isSome then 8 else 0) + (if f.cause.isSome then 16 else 0) + (if f.count.isSome then 32 else 0)

/-- The words of a fault record: kind, presence sum, timestamp, the present fields in order (R191). -/
def FaultRecord.report (f : FaultRecord) : List Word :=
  [word f.kind.code, word f.presence, f.timestamp] ++
  fieldWords (f.branch.map Fin.val) ++ fieldWords (f.upTag.map BitVec.toNat) ++ fieldWords (f.downTag.map BitVec.toNat) ++
  f.address.toList ++ fieldWords (f.cause.map FaultCause.code) ++ fieldWords f.count

/-- TAKE-FAULTS: the number of records, then each record, oldest first (R191). -/
def faultsReport (fs : List FaultRecord) : List Word := word fs.length :: (fs.map FaultRecord.report).flatten

/-- IDENTIFY (R194). -/
def identity : List Word :=
  [word Config.family, word Config.member, word Config.revision, 6, 32, 48, word Config.intakeCapacity, 56]

end Sys2Proof.Machine
end

