-- ==== Sys2Proof/Machine/BranchPort.lean ====
section
/-! DEFINITION. The Branch Ports: link indications (R78 to R81, R98, R99), the stall and partner-wait expiries (R72, R99), frames
received (R27 to R33, R66, R87, R88, R107, R167), sends (R67), issue (R61 to R63) and the completion of a drain (R93). -/

namespace Sys2Proof.Machine

/-! ## Link indications -/

/-- BRANCH_PARTNER_APPEARS (R78, R98): TRAINING from DOWN, unless the ignore-partner mark is set or the part is held in power-on
reset, when the signal is taken on leaving it. -/
def execBranchPartnerAppears (b : BranchId) (s : State) : Result :=
  let br := s.branches[b]
  .next (s.setBranch b { br with
    partner := true
    state := if br.state = .down ∧ br.ignorePartner = false ∧ s.porst = false then .training else br.state })

/-- The capacity taken from an announcement: 9..15 is taken as 8 (R79). -/
def takenCapacity (c : BitVec 4) : Nat := min c.toNat 8

/-- The branch comes into service: ACTIVE with the capacity taken and the credit equal to it, the partner wait stopped (R79, R99). -/
def Branch.enterService (capacity : Nat) (br : Branch) : Branch :=
  { br with state := .active, capacity := capacity, credit := capacity, partnerWait := none }

/-- A reset pending on branch `b` completes with `st` (R99). -/
def endReset (b : BranchId) (st : ControlStatus) : LongOp → Option ControlStatus
  | .reset c => if c = b then some st else none
  | .retire _ | .fence _ => none

/-- Training completes with a capacity of 1 or more: from TRAINING (R79), and from RESETTING with the reset DONE (R99); outside
training there is none to complete (log entry 4). -/
def State.branchTrained (b : BranchId) (capacity : Nat) (s : State) : State :=
  let up := s.setBranch b (s.branches[b].enterService capacity)
  match s.branches[b].state with
  | .training => up.raiseInternal 2
  | .resetting => (up.complete (endReset b .done)).raiseInternal 2
  | .down | .active | .draining | .fenced | .lent => s

/-- BRANCH_TRAINING_COMPLETE (R79, R99). A capacity of 0 does not complete training (R79, R159), and an exchange needs the partner
signal (R98, R159). -/
def execBranchTrainingComplete (b : BranchId) (capacity : BitVec 4) (s : State) : Result :=
  .next (if capacity = 0 ∨ s.branches[b].partner = false then s else s.branchTrained b (takenCapacity capacity))

/-- BRANCH_PARTNER_LOST: a loss with cause SIGNAL-LOST in service (R81), DOWN from TRAINING (R80), the ignore-partner mark cleared in
DOWN (R78), no change of state in RESETTING (R98). -/
def execBranchPartnerLost (b : BranchId) (s : State) : Result :=
  let br := s.branches[b]
  let s' := s.setBranch b { br with
    partner := false
    ignorePartner := false
    state := if br.state = .training then .down else br.state }
  .next (if br.state.inService then s'.lossBy b .signalLost else s')

/-- BRANCH_CHECK_FAILURE (R80, R81, R98). -/
def execBranchCheckFailure (b : BranchId) (s : State) : Result := .next (s.branchCheckFails b)

/-- BRANCH_RESET_SEQUENCE_RECEIVED: a loss with cause PARTNER-RESET in service, a restart of training otherwise (R80, R81, R98, R161). -/
def execBranchResetSequenceReceived (b : BranchId) (s : State) : Result :=
  .next (if s.branches[b].state.inService then s.lossBy b .partnerReset else s)

/-- A timed wait is running and its deadline is reached (R46). -/
def waitDue (w : Option Time) (now : Time) : Bool :=
  match w with
  | some d => reached d now
  | none => false

/-- STALL_TIMER_EXPIRY: a loss with cause STALL, the reset sequence sent (R72). -/
def execStallTimerExpiry (b : BranchId) (s : State) : Result :=
  if waitDue s.branches[b].stallTimer s.timeBase then
    .next (State.lossBy b .stall (s.setBranch b s.branches[b].sendReset))
  else .fault .notDue

/-- PARTNER_WAIT_EXPIRY: DOWN, the ignore-partner mark set if the partner signal is present, the reset NO-PARTNER (R99, R102). -/
def execPartnerWaitExpiry (b : BranchId) (s : State) : Result :=
  let br := s.branches[b]
  if br.state = .resetting ∧ waitDue br.partnerWait s.timeBase = true then
    .next ((s.setBranch b { br with state := .down, ignorePartner := br.partner, partnerWait := none }).complete
      (endReset b .noPartner))
  else .fault .notDue

/-! ## Replies -/

/-- A stray reply is recorded (R31). -/
def State.strayReply (b : BranchId) (t : BitVec 6) (s : State) : State :=
  s.recordFault { kind := .strayReply, timestamp := s.timeBase, branch := some b, downTag := some t }

/-- A matched reply (R28 to R30): the status passes unchanged, but for a code that names none and an OK with the wrong number of
data words, both TARGET-ERROR, the latter recorded. -/
def State.matchedReply (b : BranchId) (e : EntryId) (h : Held) (st : ReplyStatus) (data : List Word) (s : State) : State :=
  if st = .ok then
    if data.length = h.replyWords then s.answerEntry e h false .ok data
    else
      State.recordFault
        { kind := .lengthMismatch, timestamp := s.timeBase, branch := some b, downTag := some (BitVec.ofNat 6 e.val),
          upTag := some h.tag, address := some h.address, count := some data.length }
        (s.answerEntry e h false .targetError [])
  else s.answerEntry e h false st []

/-- A REPLY of branch `b` against entry `e` (R27): matched, late or stray. -/
def State.replyTo (b : BranchId) (e : EntryId) (st : ReplyStatus) (data : List Word) (s : State) : State :=
  let stray := s.strayReply b (BitVec.ofNat 6 e.val)
  match s.entries[e] with
  | .issued h _ => if h.branch = b then s.matchedReply b e h st data else stray
  | .answered h true => if h.branch = b then (s.setEntry e (.answered h false)).countLate else stray
  | .linger h _ => if h.branch = b then (s.setEntry e .free).countLate else stray
  | .answered _ false => stray
  | .queued _ _ => stray
  | .free => stray

/-- A REPLY frame taken by a branch in service (R27, R77); a tag of 48 or more names no entry (R169). -/
def State.takeReply (b : BranchId) (t : BitVec 6) (st : ReplyStatus) (data : List Word) (s : State) : State :=
  if s.branches[b].state.inService then
    if ht : t.toNat < 48 then s.replyTo b ⟨t.toNat, ht⟩ st data else s.strayReply b t
  else s

/-- BRANCH_REPLY (R27 to R33, R169). -/
def execBranchReply (b : BranchId) (f : Frame) (s : State) : Result :=
  takeFrame (f.isOneOf [2]) f (State.branchCheckFails b)
    (State.takeReply b f.replyTag (.ofCode f.replyStatus) f.replyData) s

/-! ## Other frames -/

/-- A CREDIT of `n` (R66): the credit rises to the capacity at most, and the excess is recorded. -/
def State.takeCredit (b : BranchId) (n : Nat) (s : State) : State :=
  let br := s.branches[b]
  if br.state.inService then
    if br.credit + n ≤ br.capacity then s.setBranch b { br with credit := br.credit + n }
    else
      State.recordFault
        { kind := .creditExcess, timestamp := s.timeBase, branch := some b, count := some (br.credit + n - br.capacity) }
        (s.setBranch b { br with credit := br.capacity })
  else s

/-- BRANCH_CREDIT (R66, R172). -/
def execBranchCredit (b : BranchId) (f : Frame) (s : State) : Result :=
  takeFrame (f.isOneOf [5]) f (State.branchCheckFails b) (State.takeCredit b f.creditCount) s

/-- A NOTICE with line value `v` (R107, R170): 0..7 raises line (b, v), above 7 is recorded. -/
def State.takeNotice (b : BranchId) (v : BitVec 8) (s : State) : State :=
  if s.branches[b].state.inService then
    if hv : v.toNat < 8 then s.raise (branchLine b ⟨v.toNat, hv⟩)
    else s.recordFault { kind := .badNotice, timestamp := s.timeBase, branch := some b, count := some v.toNat }
  else s

/-- BRANCH_NOTICE (R107, R170). -/
def execBranchNotice (b : BranchId) (f : Frame) (s : State) : Result :=
  takeFrame (f.isOneOf [3]) f (State.branchCheckFails b) (State.takeNotice b f.lineOrVector) s

/-- The record of a WITHDRAW or RETURN at the wrong moment: no cause (R87, R88, R167). -/
def State.wrongMoment (b : BranchId) (s : State) : State :=
  s.recordFault { kind := .unexpectedFrame, timestamp := s.timeBase, branch := some b }

/-- A WITHDRAW frame (R87). -/
def State.takeWithdraw (b : BranchId) (s : State) : State :=
  match s.branches[b].state with
  | .active | .draining | .fenced => (s.setBranch b { s.branches[b] with withdraw := true }).raiseInternal 3
  | .lent => s.wrongMoment b
  | .down | .training | .resetting => s

/-- WITHDRAW (R87). -/
def execWithdraw (b : BranchId) (f : Frame) (s : State) : Result :=
  takeFrame (f.isOneOf [8]) f (State.branchCheckFails b) (State.takeWithdraw b) s

/-- A RETURN frame (R88). -/
def State.takeReturn (b : BranchId) (s : State) : State :=
  match s.branches[b].state with
  | .lent =>
    (s.setBranch b { s.branches[b] with
      state := .fenced, lendWanted := .notGranted, lendTold := .notGranted }).raiseInternal 4
  | .active | .draining | .fenced => s.wrongMoment b
  | .down | .training | .resetting => s

/-- RETURN (R88). -/
def execUnitReturn (b : BranchId) (f : Frame) (s : State) : Result :=
  takeFrame (f.isOneOf [9]) f (State.branchCheckFails b) (State.takeReturn b) s

/-- A frame of a kind a branch does not carry up: recorded in service, discarded otherwise (R167). -/
def State.branchUnexpected (b : BranchId) (k : BitVec 4) (s : State) : State :=
  if s.branches[b].state.inService then
    s.recordFault
      { kind := .unexpectedFrame, timestamp := s.timeBase, branch := some b, cause := some (.frameKind k) }
  else s

/-- BRANCH_UNEXPECTED_FRAME (R167). -/
def execBranchUnexpectedFrame (b : BranchId) (f : Frame) (s : State) : Result :=
  takeFrame (f.isNoneOf Frame.branchKinds) f (State.branchCheckFails b) (State.branchUnexpected b f.kind) s

/-- BRANCH_FRAME_SENT: the transmitter is free for the next choice (R157). -/
def execBranchFrameSent (b : BranchId) (s : State) : Result :=
  .next (s.setBranch b { s.branches[b] with tx := none })

/-! ## Sends and issue -/

/-- SEND_GRANT (R67, R89). -/
def execSendGrant (b : BranchId) (s : State) : Result :=
  let br := s.branches[b]
  if br.choice = some .grant then .next (s.setBranch b { br with lendTold := br.lendWanted, tx := some .grant })
  else .fault .notBranchChoice

/-- SEND_RECLAIM (R67, R89). -/
def execSendReclaim (b : BranchId) (s : State) : Result :=
  let br := s.branches[b]
  if br.choice = some .reclaim then .next (s.setBranch b { br with lendTold := br.lendWanted, tx := some .reclaim })
  else .fault .notBranchChoice

/-- SEND_RELEASE: the lowest marked line, its mark removed (R67). -/
def execSendRelease (b : BranchId) (s : State) : Result :=
  let br := s.branches[b]
  match br.choice with
  | some (.release l) =>
    .next (s.setBranch b { br with releaseMarks := br.releaseMarks.set l false, tx := some (.release l) })
  | _ => .fault .notBranchChoice

/-- ISSUE_NON_POSTED: the head item's entry becomes ISSUED, its data leaving it and its request deadline started
(R26, R49, R61, R62, R65). -/
def execIssueNonPosted (b : BranchId) (s : State) : Result :=
  match s.branches[b].choice with
  | some (.issue (.nonPosted e)) =>
    match s.entries[e] with
    | .queued h data =>
      .next ((s.setEntry e (.issued h (s.timeBase + s.timing.cls h.cls))).setBranch b
        (s.branches[b].issue (h.request e data)))
    | .free | .issued _ _ | .answered _ _ | .linger _ _ => .fault .notBranchChoice
  | _ => .fault .notBranchChoice

/-- ISSUE_POSTED: the posted write goes down with tag 0 and its window is uncounted, which may complete a retire and, with no
entry ISSUED, a drain (R63, R93, R168). -/
def execIssuePosted (b : BranchId) (s : State) : Result :=
  match s.branches[b].choice with
  | some (.issue (.posted w address length hop data)) =>
    .next (State.settle (fun v => decide (v = w)) (fun c => decide (c = b))
      (State.uncountOne w
        (s.setBranch b (s.branches[b].issue (.request .postedWrite 0 address length hop data)))))
  | _ => .fault .notBranchChoice

/-! ## Completions -/

/-- DRAIN_COMPLETE: a DRAINING branch that holds no work becomes FENCED or LENT and its fence completes DONE (R93). Every event that
ends a drain completes it itself; a branch with nothing to complete is left as it is (log entry 5). -/
def execDrainComplete (b : BranchId) (s : State) : Result :=
  .next (s.settle (fun _ => false) (fun c => decide (c = b)))

end Sys2Proof.Machine
end

