-- ==== Sys2Proof/Machine/Command.lean ====
section
/-! DEFINITION. The Control Unit: the fourteen commands and BAD-COMMAND, each taken from the intake head and executed in one event
(R132, R177 to R179). The checks come in the order of R177: command code, operands, state. -/

namespace Sys2Proof.Machine

/-- The head is a CONTROL frame whose command code satisfies `isRow`: it leaves the queue and is executed in the same event
(R132, R177). Another head is not this command's to take (log entry 3). -/
def takeControl (isRow : Nat → Bool) (run : Control → State → State) (s : State) : Result :=
  match s.intake with
  | .control c :: rest => if isRow c.command.toNat then .next (run c { s with intake := rest }) else .fault .notAtHead
  | _ => .fault .notAtHead

/-- A command whose operands do not read is answered BAD-OPERAND and changes nothing (R179). -/
def withOperands {α : Type} (x : Option α) (c : Control) (run : α → State → State) (s : State) : State :=
  match x with
  | some a => run a s
  | none => s.answerNow c .badOperand []

/-- A command without operands (R179). -/
def noOperands : List Word → Option Unit
  | [] => some ()
  | _ :: _ => none

/-! ## BAD-COMMAND -/

/-- BAD_COMMAND: code 0 or 15..255 (R178). -/
def execBadCommand (s : State) : Result :=
  takeControl (fun k => decide (k = 0) || decide (15 ≤ k)) (fun c s => s.answerNow c .badCommand []) s

/-! ## Windows -/

/-- The byte ranges of two records that are not EMPTY share a byte (R12). -/
def Window.overlaps (v w : Window) : Bool :=
  decide (v.state ≠ .empty) && decide (w.state ≠ .empty) && decide (v.base < w.base + w.size) && decide (w.base < v.base + v.size)

/-- LOAD-WINDOW with its operands in range (R12). -/
def State.loadWindow (c : Control) (o : LoadWindowOperands) (s : State) : State :=
  if s.windows[o.index].state ≠ .empty then s.answerNow c .inUse []
  else if (List.finRange 32).any fun i => s.windows[i].overlaps o.window then s.answerNow c .overlap []
  else (s.setWindow o.index o.window).answerNow c .done []

/-- LOAD_WINDOW (R11, R12). -/
def execLoadWindow (s : State) : Result :=
  takeControl (fun k => decide (k = 1)) (fun c => withOperands (LoadWindowOperands.read c.operands) c (State.loadWindow c)) s

/-- READ_WINDOW (R13). -/
def execReadWindow (s : State) : Result :=
  takeControl (fun k => decide (k = 2))
    (fun c => withOperands (oneBelow 32 c.operands) c fun w s => s.answerNow c .done s.windows[w].report) s

/-- RETIRE-WINDOW with its operand in range (R14, R15). -/
def State.retireWindow (c : Control) (w : WindowId) (s : State) : State :=
  match s.windows[w].state with
  | .empty => s.answerNow c .wrongState []
  | .retiring => s.answerNow c .already []
  | .live =>
    if s.windows[w].inFlight = 0 then (s.setWindow w Window.blank).answerNow c .done []
    else if Config.pclCapacity ≤ s.pcl.length then s.answerNow c .busy []
    else (s.setWindow w { s.windows[w] with state := .retiring }).accept c (.retire w)

/-- RETIRE_WINDOW (R14, R15). -/
def execRetireWindow (s : State) : Result :=
  takeControl (fun k => decide (k = 3)) (fun c => withOperands (oneBelow 32 c.operands) c (State.retireWindow c)) s

/-! ## Lines and timing -/

/-- A line loaded with a configuration; a HELD line that is enabled becomes PENDING (R110, R124). -/
def LoadLineOperands.apply (o : LoadLineOperands) (ln : Line) : Line :=
  { enable := o.enable, priority := o.priority, vector := o.vector, release := o.release, again := ln.again,
    state := if ln.state = .held ∧ o.enable = true then .pending else ln.state }

/-- LOAD_LINE (R123, R124). -/
def execLoadLine (s : State) : Result :=
  takeControl (fun k => decide (k = 4))
    (fun c => withOperands (LoadLineOperands.read c.operands) c fun o s =>
      (s.setLine o.line (o.apply s.lines[o.line])).answerNow c .done []) s

/-- READ_LINE (R125). -/
def execReadLine (s : State) : Result :=
  takeControl (fun k => decide (k = 5))
    (fun c => withOperands (oneBelow 56 c.operands) c fun n s => s.answerNow c .done (s.lineReport n)) s

/-- SET_TIMING: the six values together or none (R48). -/
def execSetTiming (s : State) : Result :=
  takeControl (fun k => decide (k = 6))
    (fun c => withOperands (Timing.read c.operands) c fun t s => { s with timing := t }.answerNow c .done []) s

/-! ## Branches -/

/-- FENCE-BRANCH with its operands in range (R90 to R92). -/
def State.fenceBranch (c : Control) (b : BranchId) (lend : Bool) (s : State) : State :=
  let br := s.branches[b]
  match br.state with
  | .down | .training | .resetting => s.answerNow c .wrongState []
  | .draining => s.answerNow c .already []
  | .active =>
    if s.holdsWork b = false then (s.setBranch b (br.enterFence lend)).answerNow c .done []
    else if Config.pclCapacity ≤ s.pcl.length then s.answerNow c .busy []
    else (s.setBranch b { br with state := .draining, drainLend := lend }).accept c (.fence b)
  | .fenced => (s.setBranch b (br.enterFence lend)).answerNow c .done []
  | .lent => s.answerNow c .done []

/-- FENCE_BRANCH (R90 to R92). -/
def execFenceBranch (s : State) : Result :=
  takeControl (fun k => decide (k = 7))
    (fun c => withOperands (fenceOperands c.operands) c fun o => State.fenceBranch c o.1 o.2) s

/-- A fence pending on branch `b` completes ABORTED (R94, R96). -/
def abortFence (b : BranchId) : LongOp → Option ControlStatus
  | .fence c => if c = b then some .aborted else none
  | .retire _ | .reset _ => none

/-- UNFENCE-BRANCH with its operand in range (R94). -/
def State.unfenceBranch (c : Control) (b : BranchId) (s : State) : State :=
  let br := s.branches[b]
  match br.state with
  | .down | .training | .resetting => s.answerNow c .wrongState []
  | .active => s.answerNow c .notFenced []
  | .draining => ((s.setBranch b { br with state := .active, drainLend := false }).complete (abortFence b)).answerNow c .done []
  | .fenced => (s.setBranch b { br with state := .active }).answerNow c .done []
  | .lent => (s.setBranch b { br with state := .active, lendWanted := .notGranted }).answerNow c .done []

/-- UNFENCE_BRANCH (R94). -/
def execUnfenceBranch (s : State) : Result :=
  takeControl (fun k => decide (k = 8)) (fun c => withOperands (oneBelow 6 c.operands) c (State.unfenceBranch c)) s

/-- A FENCE-BRANCH is pending for branch `b` (R96 step 2). -/
def State.fencePending (s : State) (b : BranchId) : Bool := s.pcl.any fun r => decide (r.op = .fence b)

/-- The port as a reset is accepted: RESETTING, the reset sequence sent, the partner wait started, the ignore-partner mark
cleared (R97). -/
def Branch.beginReset (now : Time) (br : Branch) : Branch :=
  { br.sendReset with state := .resetting, ignorePartner := false, partnerWait := some (now + Config.tPartner) }

/-- The Control Reply Queue as a reset of a branch in service places its answers: ABORTED for a fence of the branch, DONE for the retires
that the loss effects end. R97 has the fence answered before the loss effects, R183 places the records of one event in the order of the
list. Where the two orders differ, which one the part follows is a free value (log entry 10). -/
def State.resetAnswers (seq : BitVec 8) (b : BranchId) (s : State) : List ControlReply :=
  let first := ((s.complete (abortFence b)).complete (s.endedByLoss b)).ctlQ
  let listed := (s.complete fun op => (abortFence b op).or (s.endedByLoss b op)).ctlQ
  if first = listed ∨ Config.fenceAnsweredFirst seq b s.timeBase = true then first else listed

/-- The work of branch `b` as a reset under sequence `seq` is accepted: a fence pending on it ends ABORTED (R96 step 2), and on a branch
in service the effects of a loss apply, which find no fence pending, with a BRANCH-LOST record of cause RESET and no raise of I1 (R85,
R97). The records of what ends leave the list together (R183), answered as `resetAnswers` places them. -/
def State.resetWork (seq : BitVec 8) (b : BranchId) (s : State) : State :=
  let s' := s.complete (abortFence b)
  if s.branches[b].state.inService then
    State.recordFault (s'.lossRecord b .reset) { s'.lose b .resetting with ctlQ := s.resetAnswers seq b }
  else s'

/-- The effects of an accepted reset (R97). -/
def State.resetEffects (seq : BitVec 8) (b : BranchId) (s : State) : State :=
  (s.resetWork seq b).setBranch b ((s.resetWork seq b).branches[b].beginReset s.timeBase)

/-- RESET-BRANCH with its operand in range (R96, R97). -/
def State.resetBranch (c : Control) (b : BranchId) (s : State) : State :=
  if s.branches[b].state = .resetting then s.answerNow c .already []
  else if s.fencePending b = false ∧ Config.pclCapacity ≤ s.pcl.length then s.answerNow c .busy []
  else (s.resetEffects c.seq b).accept c (.reset b)

/-- RESET_BRANCH (R96, R97). -/
def execResetBranch (s : State) : Result :=
  takeControl (fun k => decide (k = 9)) (fun c => withOperands (oneBelow 6 c.operands) c (State.resetBranch c)) s

/-! ## The Control Unit's own commands -/

/-- READ_STATUS (R185, R186). -/
def execReadStatus (s : State) : Result :=
  takeControl (fun k => decide (k = 10))
    (fun c => withOperands (noOperands c.operands) c fun _ s => s.answerNow c .done s.statusReport) s

/-- TAKE_FAULTS: up to n of the oldest records are removed and returned (R190, R191). -/
def execTakeFaults (s : State) : Result :=
  takeControl (fun k => decide (k = 11))
    (fun c => withOperands (takeFaultsOperand c.operands) c fun n s =>
      { s with faults := s.faults.drop n }.answerNow c .done (faultsReport (s.faults.take n))) s

/-- CLEAR_COUNTERS (R193). -/
def execClearCounters (s : State) : Result :=
  takeControl (fun k => decide (k = 12))
    (fun c => withOperands (noOperands c.operands) c fun _ s => { s with counters := Counters.zero }.answerNow c .done []) s

/-- CLEAR_PATH (R195): its completions are placed before its own DONE. -/
def execClearPath (s : State) : Result :=
  takeControl (fun k => decide (k = 13))
    (fun c => withOperands (noOperands c.operands) c fun _ s => s.clearPath.answerNow c .done []) s

/-- IDENTIFY (R194). -/
def execIdentify (s : State) : Result :=
  takeControl (fun k => decide (k = 14))
    (fun c => withOperands (noOperands c.operands) c fun _ s => s.answerNow c .done identity) s

end Sys2Proof.Machine
end

