-- ==== Sys2Proof/Machine/Deadline.lean ====
section
/-! DEFINITION. Entry deadlines (R34, R35, R51), resend deadlines (R117), the Notice Arbiter's selection (R111 to R113) and the
completion of a retire (R17). -/

namespace Sys2Proof.Machine

/-- REQUEST_DEADLINE_EXPIRY: an ISSUED entry is answered TIMEOUT with its flag true (R34). -/
def execRequestDeadlineExpiry (e : EntryId) (s : State) : Result :=
  match s.entries[e] with
  | .issued h d =>
    if reached d s.timeBase then .next (s.answerEntry e h true .timeout []) else .fault .notDue
  | .free | .queued _ _ | .answered _ _ | .linger _ _ => .fault .notDue

/-- LINGER_EXPIRY: a LINGER entry becomes FREE (R35). -/
def execLingerExpiry (e : EntryId) (s : State) : Result :=
  match s.entries[e] with
  | .linger _ d => if reached d s.timeBase then .next (s.setEntry e .free) else .fault .notDue
  | .free | .queued _ _ | .issued _ _ | .answered _ _ => .fault .notDue

/-- The record of line `n` is SENT and its resend deadline is reached (R117). -/
def Delivery.resendReached (n : LineId) (now : Time) (d : Delivery) : Bool :=
  match d.send with
  | .sent deadline => decide (d.line = n) && reached deadline now
  | .firstDue | .resendDue => false

/-- RESEND_DEADLINE_EXPIRY: the SENT record of line `n` becomes RESEND-DUE (R117). -/
def execResendDeadlineExpiry (n : LineId) (s : State) : Result :=
  if s.deliveries.any (Delivery.resendReached n s.timeBase) then
    .next { s with
      deliveries := updateFirst (Delivery.resendReached n s.timeBase) (fun d => { d with send := .resendDue }) s.deliveries }
  else .fault .notDue

/-- The chosen line becomes DELIVERED with a FIRST-DUE record at the tail of the list (R113). -/
def State.deliver (n : LineId) (s : State) : State :=
  { (s.setLine n { s.lines[n] with state := .delivered, again := false }) with
    deliveries := s.deliveries ++ [⟨n, s.lines[n].vector, .firstDue, 0⟩] }

/-- SELECTION: while the trunk is UP, a place is free and a line is PENDING (R111 to R113). -/
def execSelection (s : State) : Result :=
  if s.trunk.state = .up ∧ s.deliveries.length < Config.deliveryCapacity then
    match s.chosenLine with
    | some n => .next (s.deliver n)
    | none => .fault .noSelection
  else .fault .noSelection

/-- RETIRE_COMPLETE: a RETIRING window whose count is 0 becomes EMPTY and its retire completes DONE (R17). Every event that brings a
count to 0 completes the retire itself; a window with nothing to complete is left as it is (log entry 5). -/
def execRetireComplete (w : WindowId) (s : State) : Result :=
  .next (s.settle (fun v => decide (v = w)) (fun _ => false))

end Sys2Proof.Machine
end

