-- ==== Sys2Proof/Machine/Power.lean ====
section
/-! DEFINITION. Power-on reset (R100 and the power-on values of every block) and leaving it (R44, R78, R157). -/

namespace Sys2Proof.Machine

/-- POWER_ON_RESET: PORST_N is asserted; every block takes its power-on values, whatever was under way. The partner signals are
the far ends' and stand as they are; the commands that wait are the outside world's (log entry 7). -/
def execPowerOnReset (s : State) : Result :=
  .next (State.powerOn s.trunk.partner (Vector.ofFn fun b => s.branches[b].partner) s.pending)

/-- A branch link as the part leaves power-on reset: a partner signal already present counts as appearing (R78, R100). -/
def Branch.leaveReset (br : Branch) : Branch :=
  if br.partner && decide (br.state = .down) && !br.ignorePartner then { br with state := .training } else br

/-- The trunk as the part leaves power-on reset (R157). -/
def Trunk.leaveReset (t : Trunk) : Trunk :=
  if t.partner && decide (t.state = .down) then { t with state := .training } else t

/-- LEAVE_POWER_ON_RESET: PORST_N goes high; the Time Base counts from now on, the part presents its partner signal, and each partner
signal already present counts as appearing (R44, R78, R157). A part that is not held in reset is left as it is (log entry 4). -/
def execLeavePowerOnReset (s : State) : Result :=
  .next (if s.porst then
    { s with porst := false, trunk := s.trunk.leaveReset, branches := Vector.ofFn fun b => s.branches[b].leaveReset }
  else s)

end Sys2Proof.Machine
end

