-- ==== Sys2Proof/Machine/Route.lean ====
section
/-! DEFINITION. The Route Unit: the window lookup (R3 to R7), the eight ordered checks (R24, R86, R134 to R136), refusals (R138, R139)
and routing (R22, R60, R137). -/

namespace Sys2Proof.Machine

/-- The LIVE record whose range contains the address (R3). -/
def Window.covers (w : Window) (a : Word) : Bool :=
  decide (w.state = .live) && decide (w.base ≤ a.toNat) && decide (a.toNat < w.base + w.size)

/-- The window search (R3). -/
def State.lookup (s : State) (a : Word) : Option WindowId := (List.finRange 32).find? fun w => s.windows[w].covers a

/-- The translated address (R6). -/
def Window.translate (w : Window) (a : Word) : Word := BitVec.ofNat 32 (a.toNat - w.base + w.target)

/-- The request's last byte lies in the window; the computation does not wrap (R4). -/
def Window.holds (w : Window) (a : Word) (length : BitVec 5) : Bool :=
  decide (a.toNat + 4 * length.toNat - 1 < w.base + w.size)

/-- The upstream tag is held by a QUEUED, ISSUED or ANSWERED entry (R24). -/
def State.tagInUse (s : State) (t : BitVec 6) : Bool :=
  (List.finRange 48).any fun e => match s.entries[e].tagHeld with
    | some h => decide (h.tag = t)
    | none => false

/-- The lowest-numbered FREE entry (R22). -/
def State.freeEntry (s : State) : Option EntryId := (List.finRange 48).find? fun e => decide (s.entries[e] = .free)

/-- How an examination ends (R132). A refusal carries the branch of the window when one was found (R139). -/
inductive Verdict where
  | refuse (st : ReplyStatus) (b : Option BranchId)
  | duplicate
  | wait
  | route (w : WindowId)
  deriving DecidableEq, Repr

/-- The branch-state check (R86): the refusal, if any. -/
def BranchState.refusal : BranchState → Option ReplyStatus
  | .active => none
  | .draining | .fenced | .lent => some .fenced
  | .down | .training | .resetting => some .branchDown

/-- The resources of R136 are available. -/
def State.hasRoom (s : State) (r : Request) (b : BranchId) : Bool :=
  decide (s.branches[b].queue.length < Config.queueCapacity) && (r.isPosted || s.freeEntry.isSome)

/-- Steps 4 to 8, in the window found (R5, R86, R135, R136). -/
def State.examineIn (s : State) (r : Request) (o : Op) (i : WindowId) : Verdict :=
  let w := s.windows[i]
  if w.holds r.address r.length = false then .refuse .boundary (some w.branch)
  else if w.rights.allows o = false then .refuse .denied (some w.branch)
  else if r.hop = 0 then .refuse .hopLimit (some w.branch)
  else match s.branches[w.branch].state.refusal with
    | some st => .refuse st (some w.branch)
    | none => if s.hasRoom r w.branch then .route i else .wait

/-- The eight steps in their order (7.3): the first whose condition holds decides. -/
def State.examine (s : State) (r : Request) : Verdict :=
  if r.malformed then .refuse .malformed none
  else if !r.isPosted && s.tagInUse r.tag then .duplicate
  else match Op.ofCode r.op, s.lookup r.address with
    | some o, some i => s.examineIn r o i
    | _, none => .refuse .noRoute none
    | none, _ => .refuse .malformed none

/-- A refusal (R138, R139): a Reply that holds the credit, or a POSTED-DROPPED record with the credit returned. -/
def State.refuse (r : Request) (st : ReplyStatus) (b : Option BranchId) (s : State) : State :=
  if r.isPosted then
    State.recordFault
      { kind := .postedDropped, timestamp := s.timeBase, branch := b, address := some r.address, cause := some (.refusal st) }
      s.returnCredit
  else s.placeReply ⟨r.tag, st, [], .refusal⟩

/-- A duplicate is discarded (R24). -/
def State.discardDuplicate (r : Request) (s : State) : State :=
  State.recordFault
    { kind := .duplicateTag, timestamp := s.timeBase, upTag := some r.tag, address := some r.address } s.returnCredit

/-- An item is appended to the queue of branch `b` (R58, R60, R71). -/
def State.append (b : BranchId) (i : Item) (s : State) : State :=
  s.setBranch b { s.branches[b] with queue := s.branches[b].queue ++ [i] }

/-- The fields of a new entry (R7, R22). -/
def Request.held (r : Request) (op : NpOp) (w : WindowId) (win : Window) : Held :=
  { tag := r.tag, op := op, branch := win.branch, window := w, address := win.translate r.address, length := r.length,
    hop := r.hop - 1, cls := win.cls }

/-- Routing through window `w` (R22, R60, R137): a non-posted request takes the lowest FREE entry, a posted write its own item. -/
def State.routeVia (r : Request) (w : WindowId) (s : State) : State :=
  let win := s.windows[w]
  match (Op.ofCode r.op).bind Op.nonPosted, s.freeEntry with
  | some op, some e =>
    State.returnCredit (State.countIn w
      (State.append win.branch (.nonPosted e) (s.setEntry e (.queued (r.held op w win) r.data))))
  | some _, none => s
  | none, _ =>
    State.returnCredit (State.countIn w
      (State.append win.branch (.posted w (win.translate r.address) r.length (r.hop - 1) r.data) s))

/-- ROUTE_EXAMINATION: the request at the head is refused, discarded, routed, or waits with no change of state (R132, R136). -/
def execRouteExamination (s : State) : Result :=
  match s.intake with
  | .request r :: rest =>
    .next (match s.examine r with
      | .refuse st b => State.refuse r st b { s with intake := rest }
      | .duplicate => State.discardDuplicate r { s with intake := rest }
      | .wait => s
      | .route w => State.routeVia r w { s with intake := rest })
  | _ => .fault .notAtHead

end Sys2Proof.Machine
end

