-- ==== Sys2Proof/Machine/Transmit.lean ====
section
/-! DEFINITION. The sends of the Trunk Transmit Arbiter (R150 to R154). A send that the arbiter does not choose now stops (log entry 3). -/

namespace Sys2Proof.Machine

/-- An entry whose Reply is sent: LINGER with the class value now in force when the flag is true, else FREE (R36, R55). -/
def Entry.sent (now : Time) (t : Timing) (x : Entry) : Entry :=
  match x with
  | .answered h true => .linger h (now + t.cls h.cls)
  | .answered _ false => .free
  | .free => .free
  | .queued h d => .queued h d
  | .issued h d => .issued h d
  | .linger h d => .linger h d

/-- What the send of a Reply reaches (R152). -/
def State.replySent (o : Origin) (s : State) : State :=
  match o with
  | .entry e => s.setEntry e (s.entries[e].sent s.timeBase s.timing)
  | .refusal => s.returnCredit

/-- SEND_REPLY (R151, R152). -/
def execSendReply (s : State) : Result :=
  match s.trunkChoice, s.replyQ with
  | some .reply, r :: rest =>
    .next (State.replySent r.origin (State.transmit r.frame .notice { s with replyQ := rest }))
  | _, _ => .fault .notTrunkChoice

/-- What the send of a control reply reaches: an IMMEDIATE record returns its frame's credit (R153). -/
def State.controlSent (k : ControlKind) (s : State) : State :=
  match k with
  | .immediate => s.returnCredit
  | .completion => s

/-- SEND_CONTROL_REPLY (R151, R153): the pointer goes to REPLY by step 1 and by step 3 alike. -/
def execSendControlReply (s : State) : Result :=
  match s.trunkChoice, s.ctlQ with
  | some .control, c :: rest =>
    .next (State.controlSent c.kind (State.transmit c.frame .reply { s with ctlQ := rest }))
  | _, _ => .fault .notTrunkChoice

/-- A Delivery List record whose NOTICE is sent: SENT with a new resend deadline; a resend is counted in the record, which
holds at 65535 (R114, R116). -/
def Delivery.sendNow (deadline : Time) (d : Delivery) : Delivery :=
  { d with send := .sent deadline, resends := if d.send = .resendDue then bump d.resends else d.resends }

/-- SEND_NOTICE: the oldest due record (R115, R116, R151, R154). -/
def execSendNotice (s : State) : Result :=
  match s.trunkChoice, s.deliveries.find? Delivery.due with
  | some .notice, some d =>
    let s' := State.transmit (.notice d.vector) .control
      { s with deliveries := updateFirst Delivery.due (Delivery.sendNow (s.timeBase + s.timing.rsnd)) s.deliveries }
    .next (if d.send = .resendDue then s'.countResend else s')
  | _, _ => .fault .notTrunkChoice

/-- SEND_CREDIT: the accumulator's count goes up and the accumulator becomes 0; the pointer is not changed (R142, R151). -/
def execSendCredit (s : State) : Result :=
  match s.trunkChoice with
  | some .credit => .next (State.transmit (.credit s.acc) s.trunk.pointer { s with acc := 0 })
  | _ => .fault .notTrunkChoice

end Sys2Proof.Machine
end

