-- ==== Sys2Proof/Machine/TrunkPort.lean ====
section
/-! DEFINITION. The Trunk Port: link indications (R157, R162 to R164) and frames received on the trunk (R131, R165 to R167). -/

namespace Sys2Proof.Machine

/-! ## Link indications -/

/-- TRUNK_PARTNER_APPEARS (R162). During power-on reset the signal is taken when the part leaves it (R157). -/
def execTrunkPartnerAppears (s : State) : Result :=
  .next { s with trunk := { s.trunk with
    partner := true
    state := if s.trunk.state = .down ∧ s.porst = false then .training else s.trunk.state } }

/-- The trunk becomes UP (R163): the accumulator is set to 16, and I7 is raised and the restored mark cleared if it is set. -/
def State.trunkUp (s : State) : State :=
  let s' := { s with trunk := { s.trunk with state := .up, restored := false }, acc := Config.intakeCapacity }
  if s.trunk.restored then s'.raiseInternal 7 else s'

/-- TRUNK_TRAINING_COMPLETE (R159, R163). Outside TRAINING there is no training to complete (log entry 4). -/
def execTrunkTrainingComplete (s : State) : Result :=
  .next (if s.trunk.state = .training then s.trunkUp else s)

/-- TRUNK_CHECK_FAILURE (R162): a trunk reset with the reset sequence in UP; otherwise training restarts, or there is no link. -/
def execTrunkCheckFailure (s : State) : Result := .next s.trunkCheckFails

/-- TRUNK_RESET_SEQUENCE_RECEIVED (R161, R162): a trunk reset in UP; otherwise training restarts, or there is no link. -/
def execTrunkResetSequenceReceived (s : State) : Result :=
  .next (if s.trunk.state = .up then s.trunkReset false else s)

/-- TRUNK_PARTNER_LOST (R162): a trunk reset to DOWN in UP; DOWN without one from TRAINING. -/
def execTrunkPartnerLost (s : State) : Result :=
  let s' := { s with trunk := { s.trunk with partner := false } }
  .next (match s.trunk.state with
    | .up => s'.trunkReset false
    | .training | .down => { s' with trunk := { s'.trunk with state := .down } })

/-- TRUNK_FRAME_SENT: the transmitter becomes FREE (R150, R157). -/
def execTrunkFrameSent (s : State) : Result := .next { s with trunk := { s.trunk with tx := none } }

/-! ## Frames received -/

/-- The record of a frame discarded for want of credit (R131, R187). -/
def State.overrunRecord (s : State) (x : IntakeFrame) : FaultRecord :=
  match x with
  | .request r =>
    { kind := .creditOverrun, timestamp := s.timeBase, address := some r.address,
      upTag := if ((Op.ofCode r.op).bind Op.nonPosted).isSome then some r.tag else none }
  | .control _ => { kind := .creditOverrun, timestamp := s.timeBase }

/-- A good REQUEST or CONTROL frame arrives: appended while fewer than 16 credits are held, else discarded with
CREDIT-OVERRUN (R131); not delivered while the trunk is not UP (R162). -/
def State.arrive (x : IntakeFrame) (s : State) : State :=
  if s.trunk.state ≠ .up then s
  else if s.creditsHeld < Config.intakeCapacity then { s with intake := s.intake ++ [x] }
  else s.recordFault (s.overrunRecord x)

/-- INTAKE_ARRIVAL (R131, R168, R171). -/
def execIntakeArrival (f : Frame) (s : State) : Result :=
  takeFrame (f.isOneOf [1, 7]) f State.trunkCheckFails (State.arrive (.ofFrame f)) s

/-- A record is removed by an acknowledge: its line leaves DELIVERED and a release mark may be set (R118, R119). -/
def State.acknowledge (d : Delivery) (s : State) : State :=
  State.markRelease d.line
    ({ s with deliveries := s.deliveries.eraseP fun x => decide (x.vector = d.vector) }.setLine d.line
      s.lines[d.line].acknowledge)

/-- A NOTICE-ACK with vector `v`: the oldest record with it is removed, or the acknowledge is counted as stray (R118). -/
def State.takeAck (v : BitVec 8) (s : State) : State :=
  if s.trunk.state ≠ .up then s
  else
    match s.deliveries.find? fun x => decide (x.vector = v) with
    | some d => s.acknowledge d
    | none => s.countStrayAck

/-- NOTICE_ACK (R118 to R121, R170). -/
def execNoticeAck (f : Frame) (s : State) : Result :=
  takeFrame (f.isOneOf [4]) f State.trunkCheckFails (State.takeAck f.lineOrVector) s

/-- TRUNK_CREDIT_RECEIVED: discarded without effect or record (R166). -/
def execTrunkCreditReceived (f : Frame) (s : State) : Result :=
  takeFrame (f.isOneOf [5]) f State.trunkCheckFails (fun s => s) s

/-- A frame of a kind the trunk does not carry down: recorded in UP, discarded otherwise (R167). -/
def State.trunkUnexpected (k : BitVec 4) (s : State) : State :=
  if s.trunk.state = .up then
    s.recordFault { kind := .unexpectedFrame, timestamp := s.timeBase, cause := some (.frameKind k) }
  else s

/-- TRUNK_UNEXPECTED_FRAME (R167). -/
def execTrunkUnexpectedFrame (f : Frame) (s : State) : Result :=
  takeFrame (f.isNoneOf Frame.trunkKinds) f State.trunkCheckFails (State.trunkUnexpected f.kind) s

end Sys2Proof.Machine
end

