-- ==== Sys2Proof/Machine/Dispatch.lean ====
section
/-! DEFINITION. The effect of each command on everything but the queue of commands: one arm per row of spec/opcode_table.json. -/

namespace Sys2Proof.Machine

def exec (i : Instr) (s : State) : Host.Outcome State Fault Refusal :=
  match i with
  | .powerOnReset => Sys2Proof.Machine.execPowerOnReset s
  | .leavePowerOnReset => Sys2Proof.Machine.execLeavePowerOnReset s
  | .trunkPartnerAppears => Sys2Proof.Machine.execTrunkPartnerAppears s
  | .trunkTrainingComplete => Sys2Proof.Machine.execTrunkTrainingComplete s
  | .trunkCheckFailure => Sys2Proof.Machine.execTrunkCheckFailure s
  | .trunkResetSequenceReceived => Sys2Proof.Machine.execTrunkResetSequenceReceived s
  | .trunkPartnerLost => Sys2Proof.Machine.execTrunkPartnerLost s
  | .intakeArrival f => Sys2Proof.Machine.execIntakeArrival f s
  | .noticeAck f => Sys2Proof.Machine.execNoticeAck f s
  | .trunkCreditReceived f => Sys2Proof.Machine.execTrunkCreditReceived f s
  | .trunkUnexpectedFrame f => Sys2Proof.Machine.execTrunkUnexpectedFrame f s
  | .trunkFrameSent => Sys2Proof.Machine.execTrunkFrameSent s
  | .sendReply => Sys2Proof.Machine.execSendReply s
  | .sendControlReply => Sys2Proof.Machine.execSendControlReply s
  | .sendNotice => Sys2Proof.Machine.execSendNotice s
  | .sendCredit => Sys2Proof.Machine.execSendCredit s
  | .routeExamination => Sys2Proof.Machine.execRouteExamination s
  | .badCommand => Sys2Proof.Machine.execBadCommand s
  | .loadWindow => Sys2Proof.Machine.execLoadWindow s
  | .readWindow => Sys2Proof.Machine.execReadWindow s
  | .retireWindow => Sys2Proof.Machine.execRetireWindow s
  | .loadLine => Sys2Proof.Machine.execLoadLine s
  | .readLine => Sys2Proof.Machine.execReadLine s
  | .setTiming => Sys2Proof.Machine.execSetTiming s
  | .fenceBranch => Sys2Proof.Machine.execFenceBranch s
  | .unfenceBranch => Sys2Proof.Machine.execUnfenceBranch s
  | .resetBranch => Sys2Proof.Machine.execResetBranch s
  | .readStatus => Sys2Proof.Machine.execReadStatus s
  | .takeFaults => Sys2Proof.Machine.execTakeFaults s
  | .clearCounters => Sys2Proof.Machine.execClearCounters s
  | .clearPath => Sys2Proof.Machine.execClearPath s
  | .identify => Sys2Proof.Machine.execIdentify s
  | .branchPartnerAppears b => Sys2Proof.Machine.execBranchPartnerAppears b s
  | .branchTrainingComplete b capacity => Sys2Proof.Machine.execBranchTrainingComplete b capacity s
  | .branchPartnerLost b => Sys2Proof.Machine.execBranchPartnerLost b s
  | .branchCheckFailure b => Sys2Proof.Machine.execBranchCheckFailure b s
  | .branchResetSequenceReceived b => Sys2Proof.Machine.execBranchResetSequenceReceived b s
  | .stallTimerExpiry b => Sys2Proof.Machine.execStallTimerExpiry b s
  | .partnerWaitExpiry b => Sys2Proof.Machine.execPartnerWaitExpiry b s
  | .branchReply b f => Sys2Proof.Machine.execBranchReply b f s
  | .branchCredit b f => Sys2Proof.Machine.execBranchCredit b f s
  | .branchNotice b f => Sys2Proof.Machine.execBranchNotice b f s
  | .withdraw b f => Sys2Proof.Machine.execWithdraw b f s
  | .unitReturn b f => Sys2Proof.Machine.execUnitReturn b f s
  | .branchUnexpectedFrame b f => Sys2Proof.Machine.execBranchUnexpectedFrame b f s
  | .branchFrameSent b => Sys2Proof.Machine.execBranchFrameSent b s
  | .sendGrant b => Sys2Proof.Machine.execSendGrant b s
  | .sendReclaim b => Sys2Proof.Machine.execSendReclaim b s
  | .sendRelease b => Sys2Proof.Machine.execSendRelease b s
  | .issueNonPosted b => Sys2Proof.Machine.execIssueNonPosted b s
  | .issuePosted b => Sys2Proof.Machine.execIssuePosted b s
  | .requestDeadlineExpiry e => Sys2Proof.Machine.execRequestDeadlineExpiry e s
  | .lingerExpiry e => Sys2Proof.Machine.execLingerExpiry e s
  | .resendDeadlineExpiry l => Sys2Proof.Machine.execResendDeadlineExpiry l s
  | .selection => Sys2Proof.Machine.execSelection s
  | .drainComplete b => Sys2Proof.Machine.execDrainComplete b s
  | .retireComplete w => Sys2Proof.Machine.execRetireComplete w s

end Sys2Proof.Machine
end

