-- ==== Sys2Proof/Safety.lean ====
section
/-! DEFINITION. The terms of the claims: which blocks a command leaves as they are, and what stays true of the part in every run. -/

namespace Sys2Proof.Safety

open Sys2Proof.Machine

/-! ## Frames -/

/-- A part of the state that a claim about a command may name as changed. -/
inductive Block where
  | porst | timeBase | timing | windows | entries | branches | lines | deliveries | intake | acc | replyQ | ctlQ | trunk | pcl
  | faults | counters
  deriving DecidableEq, Repr

/-- The block is the same in both states. -/
def Block.same (k : Block) (s t : State) : Prop :=
  match k with
  | .porst => t.porst = s.porst
  | .timeBase => t.timeBase = s.timeBase
  | .timing => t.timing = s.timing
  | .windows => t.windows = s.windows
  | .entries => t.entries = s.entries
  | .branches => t.branches = s.branches
  | .lines => t.lines = s.lines
  | .deliveries => t.deliveries = s.deliveries
  | .intake => t.intake = s.intake
  | .acc => t.acc = s.acc
  | .replyQ => t.replyQ = s.replyQ
  | .ctlQ => t.ctlQ = s.ctlQ
  | .trunk => t.trunk = s.trunk
  | .pcl => t.pcl = s.pcl
  | .faults => t.faults = s.faults
  | .counters => t.counters = s.counters

/-- Nothing but the blocks of `ks` changed; the queue of commands did not. -/
def SameBut (ks : List Block) (s t : State) : Prop :=
  (∀ k : Block, k ∉ ks → k.same s t) ∧ t.pending = s.pending

/-- Every entry but `e` is as it was. -/
def OtherEntries (e : EntryId) (s t : State) : Prop := ∀ f : EntryId, f ≠ e → t.entries[f] = s.entries[f]

/-- Every window but `w` is as it was. -/
def OtherWindows (w : WindowId) (s t : State) : Prop := ∀ v : WindowId, v ≠ w → t.windows[v] = s.windows[v]

/-- Every branch but `b` is as it was. -/
def OtherBranches (b : BranchId) (s t : State) : Prop := ∀ c : BranchId, c ≠ b → t.branches[c] = s.branches[c]

/-- Every line but `n` is as it was. -/
def OtherLines (n : LineId) (s t : State) : Prop := ∀ m : LineId, m ≠ n → t.lines[m] = s.lines[m]

/-- The attention blocks (Fault Queue, lines, counters) of `t` are those of `u`: what a record or a raise made in `u` leaves. -/
def AttentionOf (u t : State) : Prop := t.faults = u.faults ∧ t.lines = u.lines ∧ t.counters = u.counters

/-- The windows, branches, Pending Control List and Control Reply Queue of `t` are those of `u`: what settled completions leave. -/
def SettledAs (u t : State) : Prop :=
  t.windows = u.windows ∧ t.branches = u.branches ∧ t.pcl = u.pcl ∧ t.ctlQ = u.ctlQ

/-! ## Terms of the claims about commands -/

/-- The stall timer agrees with its three conditions (R71): PortsOk says so of every port. -/
def TimerOk (br : Branch) : Prop := br.stallTimer.isSome = br.stalled

/-- The CONTROL frame `c` left the intake head and was answered at once (R148, R177). -/
def Answers (c : Control) (rest : List IntakeFrame) (st : ControlStatus) (result : List Word) (s t : State) : Prop :=
  t.intake = rest ∧ t.ctlQ = s.ctlQ ++ [⟨c.seq, st, result, .immediate⟩]

/-- It was answered and nothing else happened. -/
def AnsweredOnly (c : Control) (rest : List IntakeFrame) (st : ControlStatus) (result : List Word) (s t : State) : Prop :=
  Answers c rest st result s t ∧ SameBut [.intake, .ctlQ] s t

/-- The CONTROL frame `c` left the intake head and was accepted as a long operation: its record is appended and its credit
returned (R141, R181). -/
def Accepts (c : Control) (rest : List IntakeFrame) (op : LongOp) (s t : State) : Prop :=
  t.intake = rest ∧ t.acc = s.acc + 1 ∧ t.pcl = s.pcl ++ [⟨c.seq, op, s.timeBase⟩]

/-- The command that executes a CONTROL frame of code 1..14 (R171). -/
def commandOf : Nat → Instr
  | 1 => .loadWindow | 2 => .readWindow | 3 => .retireWindow | 4 => .loadLine | 5 => .readLine | 6 => .setTiming
  | 7 => .fenceBranch | 8 => .unfenceBranch | 9 => .resetBranch | 10 => .readStatus | 11 => .takeFaults
  | 12 => .clearCounters | 13 => .clearPath | 14 => .identify | _ => .badCommand

/-- The operand counts of 10.1 with the ranges of R11, R13, R14, R48, R90, R94, R96, R123, R125 and R190 and the forms of R171. -/
def OperandsInRange : Nat → List Word → Prop
  | 1, [i, bp, sp, b, tp, ri, cl] =>
    i.toNat ≤ 31 ∧ bp.toNat ≤ 1048575 ∧ 1 ≤ sp.toNat ∧ sp.toNat ≤ 1048576 ∧ bp.toNat + sp.toNat ≤ 1048576 ∧
    b.toNat ≤ 5 ∧ tp.toNat ≤ 1048575 ∧ tp.toNat + sp.toNat ≤ 1048576 ∧ ri.toNat ≤ 15 ∧ cl.toNat ≤ 3
  | 2, [i] => i.toNat ≤ 31
  | 3, [i] => i.toNat ≤ 31
  | 4, [n, en, p, v, re] => n.toNat ≤ 55 ∧ en.toNat ≤ 1 ∧ p.toNat ≤ 7 ∧ v.toNat ≤ 255 ∧ re.toNat ≤ 1
  | 5, [n] => n.toNat ≤ 55
  | 6, [c0, c1, c2, c3, r, st] =>
    (∀ c ∈ [c0, c1, c2, c3], 1 ≤ c.toNat ∧ c.toNat ≤ 16777215) ∧ 100 ≤ r.toNat ∧ r.toNat ≤ 1000000 ∧
    1000 ≤ st.toNat ∧ st.toNat ≤ 16000000
  | 7, [b, l] => b.toNat ≤ 5 ∧ l.toNat ≤ 1
  | 8, [b] => b.toNat ≤ 5
  | 9, [b] => b.toNat ≤ 5
  | 10, [] => True
  | 11, [n] => 1 ≤ n.toNat ∧ n.toNat ≤ 8
  | 12, [] => True
  | 13, [] => True
  | 14, [] => True
  | _, _ => False

/-- The conditions of R134, each the opposite of one row of its table. -/
def GoodRequest (r : Request) : Prop :=
  r.op.toNat ≤ 3 ∧ 1 ≤ r.length.toNat ∧ r.length.toNat ≤ 16 ∧ (r.op = 3 → r.length = 1) ∧ r.address.toNat % 4 = 0 ∧
  r.data.length = (if r.op = 0 then 0 else if r.op = 3 then 1 else r.length.toNat)

/-- A READ, WRITE or SWAP under an upstream tag that a QUEUED, ISSUED or ANSWERED entry holds (R24). -/
def Duplicate (s : State) (r : Request) : Prop :=
  r.op ≠ 2 ∧ ∃ (e : EntryId) (h : Held), s.entries[e].tagHeld = some h ∧ h.tag = r.tag

/-- The window is LIVE and its range contains the byte address (R3). -/
def Contains (w : Window) (a : Word) : Prop := w.state = .live ∧ w.base ≤ a.toNat ∧ a.toNat ≤ w.base + w.size - 1 ∧ 0 < w.size

/-- The three trunk events that make a trunk reset of an UP trunk (R162). -/
def trunkResetCauses : List Instr := [.trunkCheckFailure, .trunkResetSequenceReceived, .trunkPartnerLost]

/-- The state in which an ISSUED entry has been answered and its window uncounted, before any completion that this brings. -/
def answeredState (e : EntryId) (h : Held) (outstanding : Bool) (s : State) : State :=
  { s with
    entries := s.entries.set e (.answered h outstanding)
    windows := s.windows.set h.window { s.windows[h.window] with inFlight := s.windows[h.window].inFlight - 1 } }

/-- What an answer to the ISSUED entry `e` leaves: the entry ANSWERED, its window uncounted, one Reply placed, and the retire or drain
that this ends completed (R28, R34). -/
def AnswerLeaves (e : EntryId) (h : Held) (outstanding : Bool) (st : ReplyStatus) (data : List Word) (s t : State) : Prop :=
  t.entries = s.entries.set e (.answered h outstanding) ∧ t.replyQ = s.replyQ ++ [⟨h.tag, st, data, .entry e⟩] ∧
  SettledAs (State.settle (fun w => decide (w = h.window)) (fun b => decide (b = h.branch)) (answeredState e h outstanding s)) t

/-- A retire on window `w` that a loss of branch `b` completes: the window is RETIRING and the loss takes its last counted work. -/
def retiredByLoss (s : State) (b : BranchId) (w : WindowId) : Bool :=
  let gone := s.workVia (fun c => decide (c = b)) w
  decide (s.windows[w].state = .retiring) && decide (0 < gone) && decide (s.windows[w].inFlight ≤ gone)

/-- The long operations that a loss of branch `b` completes (R84). -/
def lossCompletes (s : State) (b : BranchId) : LongOp → Option ControlStatus
  | .fence c => if c = b then some .branchLost else none
  | .retire w => if retiredByLoss s b w then some .done else none
  | .reset _ => none

/-- The lines after a loss of branch `b` (R83). -/
def lostLines (s : State) (b : BranchId) : Vector Line 56 :=
  Vector.ofFn fun n =>
    if n.val / 8 = b.val then
      if s.lines[n].state = .delivered then { s.lines[n] with again := false } else { s.lines[n] with state := .idle }
    else s.lines[n]

/-- The work of branch `b` after a loss: its entries, its owed Replies in ascending order, the windows uncounted, and EMPTY
where the loss ends a retire (R39, R73, R82, R84). The long operations that end stand apart (`lossCompletes`). -/
def LossSettles (b : BranchId) (s t : State) : Prop :=
  (∀ e : EntryId, t.entries[e] = match s.entries[e] with
    | .free => .free
    | .queued h d => if h.branch = b then .answered h false else .queued h d
    | .issued h d => if h.branch = b then .answered h false else .issued h d
    | .answered h o => if h.branch = b then .answered h false else .answered h o
    | .linger h d => if h.branch = b then .free else .linger h d) ∧
  t.replyQ = s.replyQ ++ s.owed (fun c => decide (c = b)) .branchDown ∧
  (∀ w : WindowId, t.windows[w] =
    if retiredByLoss s b w then Window.blank
    else { s.windows[w] with inFlight := s.windows[w].inFlight - s.workVia (fun c => decide (c = b)) w })

/-- The port fields that a loss clears (R70, R82); state, partner, ignore-partner mark, partner wait and reset count stand apart. -/
def clearedPort (br : Branch) : Branch :=
  { br with
    queue := [], credit := 0, stallTimer := none, withdraw := false, drainLend := false, tx := none,
    releaseMarks := Vector.replicate 8 false, lendWanted := .notGranted, lendTold := .notGranted }

/-! ## Invariants -/

/-- Queues and credits within bounds, a capacity of 1 or more in service, and the stall timer running exactly under its three
conditions (R58, R65, R71, R79). -/
def PortsOk (s : State) : Prop :=
  ∀ b : BranchId,
    s.branches[b].queue.length ≤ Config.queueCapacity ∧ s.branches[b].credit ≤ s.branches[b].capacity ∧
    s.branches[b].capacity ≤ 8 ∧ (s.branches[b].state.inService = true → 1 ≤ s.branches[b].capacity) ∧
    s.branches[b].stallTimer.isSome = s.branches[b].stalled

/-- The links agree with their partner signals: a link in training or in service has its partner, the ignore-partner mark is set in
DOWN alone and with the signal present, the partner wait runs exactly in RESETTING, and a signal present in DOWN is an ignored one or
waits for the end of power-on reset (R76, R78, R81, R97, R99, R162). -/
def LinksOk (s : State) : Prop :=
  (∀ b : BranchId,
    (s.branches[b].state = .training ∨ s.branches[b].state.inService = true → s.branches[b].partner = true) ∧
    (s.branches[b].ignorePartner = true → s.branches[b].state = .down ∧ s.branches[b].partner = true) ∧
    (s.branches[b].partnerWait.isSome = true ↔ s.branches[b].state = .resetting) ∧
    (s.branches[b].state = .down → s.branches[b].partner = true → s.branches[b].ignorePartner = true ∨ s.porst = true)) ∧
  (s.trunk.state ≠ .down → s.trunk.partner = true) ∧
  (s.trunk.state = .down → s.trunk.partner = true → s.porst = true) ∧
  (s.porst = true → s.trunk.state = .down)

/-- A line's configuration of R103: enable, priority, vector, release. -/
def config (ln : Line) : Bool × BitVec 3 × BitVec 8 × Bool := (ln.enable, ln.priority, ln.vector, ln.release)

/-- The Delivery List and the Line Table agree (R105, R106, R114): at most four records, one for each DELIVERED line and for no
other; again only while DELIVERED; no enabled line HELD; the release field of an internal line off (R108). -/
def NoticesOk (s : State) : Prop :=
  s.deliveries.length ≤ Config.deliveryCapacity ∧ (s.deliveries.map Delivery.line).Nodup ∧
  ∀ n : LineId,
    (s.lines[n].state = .delivered ↔ n ∈ s.deliveries.map Delivery.line) ∧
    (s.lines[n].again = true → s.lines[n].state = .delivered) ∧
    (s.lines[n].state = .held → s.lines[n].enable = false) ∧
    (48 ≤ n.val → s.lines[n].release = false)

/-- A window record is EMPTY with every other field zero, or holds a range of whole pages within both address spaces (R1). -/
def WindowOk (w : Window) : Prop :=
  (w.state = .empty → w = Window.blank) ∧
  (w.state ≠ .empty →
    w.base % Config.pageBytes = 0 ∧ w.size % Config.pageBytes = 0 ∧ w.target % Config.pageBytes = 0 ∧ 0 < w.size ∧
    w.base + w.size ≤ 2 ^ 32 ∧ w.target + w.size ≤ 2 ^ 32)

/-- No two windows that are LIVE or RETIRING overlap (R12). -/
def WindowsOk (s : State) : Prop :=
  (∀ w : WindowId, WindowOk s.windows[w]) ∧ ∀ v w : WindowId, v ≠ w → s.windows[v].overlaps s.windows[w] = false

/-- No two QUEUED, ISSUED or ANSWERED entries carry the same upstream tag (R24). -/
def TagsOk (s : State) : Prop :=
  ∀ e f : EntryId, e ≠ f →
    ∀ h k : Held, s.entries[e].tagHeld = some h → s.entries[f].tagHeld = some k → h.tag ≠ k.tag

/-- An ANSWERED entry. -/
def isAnswered : Entry → Bool
  | .answered _ _ => true
  | .free | .queued _ _ | .issued _ _ | .linger _ _ => false

/-- One Reply waits for each ANSWERED entry, under its upstream tag, and none for any other entry (R21, R36, R146). -/
def RepliesOk (s : State) : Prop :=
  (∀ e : EntryId, s.replyQ.countP (fun r => decide (r.origin = .entry e)) = if isAnswered s.entries[e] then 1 else 0) ∧
  ∀ r ∈ s.replyQ, ∀ e : EntryId, r.origin = .entry e → ∀ h : Held, s.entries[e].tagHeld = some h → r.tag = h.tag

/-- Counters and resend counts hold at 65535 and the Fault Queue holds at most 8 records (R114, R188, R192). -/
def CountsOk (s : State) : Prop :=
  s.faults.length ≤ Config.faultCapacity ∧
  s.counters.lateReplies ≤ Config.counterMax ∧ s.counters.coalesced ≤ Config.counterMax ∧
  s.counters.strayAcks ≤ Config.counterMax ∧ s.counters.resends ≤ Config.counterMax ∧
  s.counters.trunkResets ≤ Config.counterMax ∧ s.counters.faultOverflows ≤ Config.counterMax ∧
  ∀ d ∈ s.deliveries, d.resends ≤ Config.counterMax

/-- Out of service the trunk holds nothing: no frame, no answer, no operation, no delivery, no entry to be answered, no queued item
(R114, R142, R149, R150). -/
def Quiet (s : State) : Prop :=
  s.intake = [] ∧ s.acc = 0 ∧ s.replyQ = [] ∧ s.ctlQ = [] ∧ s.pcl = [] ∧ s.deliveries = [] ∧ s.trunk.tx = none ∧
  (∀ e : EntryId, s.entries[e].tagHeld = none) ∧ ∀ b : BranchId, s.branches[b].queue = []

/-- The COMPLETION records that wait (R149). -/
def completions (s : State) : Nat := s.ctlQ.countP fun c => !c.isImmediate

/-- The part holds at most 16 credits (R131, R143), at most four operations wait (R182), and the operations that wait with the
completions unsent never exceed four and the accumulator's count (R149); out of service the trunk is quiet. -/
def TrunkOk (s : State) : Prop :=
  s.creditsHeld ≤ Config.intakeCapacity ∧ s.pcl.length ≤ Config.pclCapacity ∧
  completions s + s.pcl.length ≤ Config.pclCapacity + s.acc ∧ (s.trunk.state ≠ .up → Quiet s)

/-- The Pending Control List agrees with the windows and branches: no two records for one object, a retire exactly for each RETIRING
window, a fence exactly for each DRAINING branch, a reset only for a RESETTING branch (R182). -/
def PendingOk (s : State) : Prop :=
  (s.pcl.map PendingControl.op).Nodup ∧
  (∀ w : WindowId, .retire w ∈ s.pcl.map PendingControl.op ↔ s.windows[w].state = .retiring) ∧
  (∀ b : BranchId, .fence b ∈ s.pcl.map PendingControl.op ↔ s.branches[b].state = .draining) ∧
  ∀ b : BranchId, .reset b ∈ s.pcl.map PendingControl.op → s.branches[b].state = .resetting

/-- A QUEUED entry of branch `b`. -/
def queuedOn (b : BranchId) : Entry → Bool
  | .queued h _ => decide (h.branch = b)
  | .free | .issued _ _ | .answered _ _ | .linger _ _ => false

/-- An entry of branch `b` that the branch may still answer, or that waits to go down it: QUEUED, ISSUED, LINGER, or ANSWERED with the
outstanding flag set. -/
def boundTo (b : BranchId) : Entry → Bool
  | .queued h _ => decide (h.branch = b)
  | .issued h _ => decide (h.branch = b)
  | .linger h _ => decide (h.branch = b)
  | .answered h o => decide (h.branch = b) && o
  | .free => false

/-- A port out of service holds nothing (R80, R82). -/
def PortClear (br : Branch) : Prop :=
  br.queue = [] ∧ br.credit = 0 ∧ br.withdraw = false ∧ br.drainLend = false ∧ br.releaseMarks = Vector.replicate 8 false ∧
  br.lendWanted = .notGranted ∧ br.lendTold = .notGranted ∧ br.tx = none

/-- The account of work in flight.
`counts`: each window's count is its QUEUED and ISSUED entries and its posted items (R10).
`empties`: it is 0 for an EMPTY window (R10).
`items`: an entry is QUEUED exactly while its item is in the queue of its branch (R59), and is there once (R58).
`idle`: a FENCED or LENT branch holds no work (R91).
`out`: a branch out of service holds no work and guards no tag (R80, R82).
`drain`: drain lend is set only while DRAINING (R76).
`settled`: a RETIRING window still has counted work and a DRAINING branch still holds work, since completion comes in the event that
ends the wait (R17, R93). -/
structure WorkOk (s : State) : Prop where
  counts : ∀ w : WindowId, s.windows[w].inFlight = s.workVia (fun _ => true) w
  empties : ∀ w : WindowId, s.windows[w].state = .empty → s.windows[w].inFlight = 0
  items : ∀ (b : BranchId) (e : EntryId),
    s.branches[b].queue.count (.nonPosted e) = if queuedOn b s.entries[e] then 1 else 0
  idle : ∀ b : BranchId, s.branches[b].state = .fenced ∨ s.branches[b].state = .lent →
    s.branches[b].queue = [] ∧ ∀ (e : EntryId) (h : Held), s.entries[e].counted = some h → h.branch ≠ b
  out : ∀ b : BranchId, s.branches[b].state.inService = false →
    PortClear s.branches[b] ∧ ∀ e : EntryId, boundTo b s.entries[e] = false
  drain : ∀ b : BranchId, s.branches[b].drainLend = true → s.branches[b].state = .draining
  settled : (∀ w : WindowId, s.windows[w].state = .retiring → 0 < s.windows[w].inFlight) ∧
    ∀ b : BranchId, s.branches[b].state = .draining → s.holdsWork b = true

end Sys2Proof.Safety
end

