-- ==== Sys2Proof/Certificates/Slice0/Obligations.lean ====
section
/-! DEFINITION. The statements for the provers. Each says what a command or the part does, by the rules of spec/ that
OBLIGATIONS.json cites. A hypothesis `TimerOk` or `PortsOk` is the invariant of the stall timers (R71), which
`InvariantPortsAndLinks` states as kept. -/

open Sys2Proof Sys2Proof.Machine Sys2Proof.Safety

/-! ## Steps and power -/

/-- A step takes the command at the front of the queue and executes it on the state with the queue's rest. -/
def Obligations.StepTakesFront : Prop :=
  ∀ (c : Instr) (rest : List Instr) (s : State), s.pending = c :: rest → step s = exec c { s with pending := rest }

/-- The model's choice (log entry 2): on an empty queue one microsecond passes and nothing else happens. -/
def Obligations.IdleStepIsOneMicrosecond : Prop :=
  ∀ s : State, s.pending = [] →
    ∃ t, step s = .next t ∧ t.timeBase = (if s.porst then s.timeBase else s.timeBase + 1) ∧ SameBut [.timeBase] s t

/-- Power-on reset: the values of every block. The partner signals and the queue of commands stand as they are (log entry 7). -/
def Obligations.PowerOnResetValues : Prop :=
  ∀ s : State, ∃ t, exec .powerOnReset s = .next t ∧
    t.porst = true ∧ t.timeBase = 0 ∧ t.timing = ⟨500, 5000, 50000, 500000, 2000, 100000⟩ ∧
    (∀ w : WindowId, t.windows[w] = ⟨.empty, 0, 0, 0, 0, ⟨false, false, false, false⟩, 0, 0⟩) ∧
    (∀ e : EntryId, t.entries[e] = .free) ∧
    (∀ b : BranchId, t.branches[b] =
      { state := .down, queue := [], capacity := 0, credit := 0, withdraw := false, drainLend := false, partnerWait := none,
        ignorePartner := false, stallTimer := none, releaseMarks := Vector.replicate 8 false, lendWanted := .notGranted,
        lendTold := .notGranted, tx := none, partner := s.branches[b].partner, resetSeqs := 0 }) ∧
    (∀ n : LineId, t.lines[n] = ⟨false, 0, 0, false, .idle, false⟩) ∧
    t.deliveries = [] ∧ t.intake = [] ∧ t.acc = 0 ∧ t.replyQ = [] ∧ t.ctlQ = [] ∧
    t.trunk = ⟨.down, false, s.trunk.partner, none, .control, 0⟩ ∧
    t.pcl = [] ∧ t.faults = [] ∧ t.counters = ⟨0, 0, 0, 0, 0, 0⟩ ∧ t.pending = s.pending

/-- As the part leaves power-on reset, a partner signal that is present on a link in DOWN counts as appearing. -/
def Obligations.LeavingPowerOnReset : Prop :=
  ∀ s : State, s.porst = true →
    ∃ t, exec .leavePowerOnReset s = .next t ∧ t.porst = false ∧
      t.trunk = { s.trunk with
        state := if s.trunk.state = .down ∧ s.trunk.partner = true then .training else s.trunk.state } ∧
      (∀ b : BranchId, t.branches[b] = { s.branches[b] with
        state := if s.branches[b].state = .down ∧ s.branches[b].partner = true ∧ s.branches[b].ignorePartner = false
          then .training else s.branches[b].state }) ∧
      SameBut [.porst, .trunk, .branches] s t

/-- The state after reset satisfies every invariant stated below. -/
def Obligations.ResetSatisfiesInvariants : Prop :=
  PortsOk State.reset ∧ LinksOk State.reset ∧ NoticesOk State.reset ∧ WindowsOk State.reset ∧ TagsOk State.reset ∧
  RepliesOk State.reset ∧ CountsOk State.reset ∧ TrunkOk State.reset ∧ PendingOk State.reset ∧ WorkOk State.reset

/-! ## The trunk link -/

/-- The trunk in DOWN and in TRAINING: the signal appears, training restarts, the signal is lost, and frames are not delivered. During
power-on reset the signal is noted alone, to be taken on leaving it. That a restart changes no state held is log entry 13; a signal
that appears where one is present, and frames in DOWN, are log entry 4. -/
def Obligations.TrunkLinkOutOfService : Prop :=
  ∀ s : State,
    (s.trunk.state = .down → s.porst = false →
      ∃ t, exec .trunkPartnerAppears s = .next t ∧ t.trunk = { s.trunk with partner := true, state := .training } ∧
        SameBut [.trunk] s t) ∧
    (s.trunk.state ≠ .down ∨ s.porst = true →
      ∃ t, exec .trunkPartnerAppears s = .next t ∧ t.trunk = { s.trunk with partner := true } ∧ SameBut [.trunk] s t) ∧
    (s.trunk.state = .training →
      exec .trunkCheckFailure s = .next s ∧ exec .trunkResetSequenceReceived s = .next s ∧
      ∃ t, exec .trunkPartnerLost s = .next t ∧ t.trunk = { s.trunk with partner := false, state := .down } ∧
        SameBut [.trunk] s t) ∧
    (s.trunk.state ≠ .up → ∀ f : Frame, f.sizeOk = true →
      (f.isOneOf [1, 7] = true → exec (.intakeArrival f) s = .next s) ∧
      (f.isOneOf [4] = true → exec (.noticeAck f) s = .next s) ∧
      (f.isNoneOf Frame.trunkKinds = true → exec (.trunkUnexpectedFrame f) s = .next s))

/-- Training complete in TRAINING: the trunk is UP, the accumulator 16, and I7 raised exactly if the restored mark was set. From this
event on the arbiters may act: the grant is the arbiter's choice, and a selection is taken when a line waits. -/
def Obligations.TrunkTrainingCompletes : Prop :=
  ∀ s : State, s.trunk.state = .training →
    ∃ t, exec .trunkTrainingComplete s = .next t ∧
      t.trunk = { s.trunk with state := .up, restored := false } ∧ t.acc = 16 ∧
      (s.trunk.restored = true → AttentionOf (s.raiseInternal 7) t) ∧ (s.trunk.restored = false → AttentionOf s t) ∧
      SameBut [.trunk, .acc, .lines, .counters] s t ∧
      (s.trunk.tx = none → s.ctlQ = [] → t.trunkChoice = some .credit) ∧
      (s.deliveries = [] → (∃ n : LineId, t.lines[n].state = .pending) → ∃ u, exec .selection t = .next u)

/-- A trunk reset at the Trunk Port and the Trunk Transmit Arbiter, with the counter it increments. -/
def Obligations.TrunkResetAtThePort : Prop :=
  ∀ (c : Instr) (s : State), c ∈ trunkResetCauses → s.trunk.state = .up →
    ∃ t, exec c s = .next t ∧
      t.trunk =
        { state := if c = .trunkPartnerLost ∨ s.trunk.partner = false then .down else .training
          restored := true
          partner := if c = .trunkPartnerLost then false else s.trunk.partner
          tx := none
          pointer := .control
          resetSeqs := if c = .trunkCheckFailure then s.trunk.resetSeqs + 1 else s.trunk.resetSeqs } ∧
      t.counters.trunkResets = (if s.counters.trunkResets < 65535 then s.counters.trunkResets + 1 else s.counters.trunkResets) ∧
      SameBut [.trunk, .intake, .acc, .replyQ, .ctlQ, .pcl, .deliveries, .entries, .windows, .branches, .lines, .counters] s t

/-- The share of each block in a trunk reset. Line I6 stands apart: the trunk-resets counter may saturate and raise it. -/
def Obligations.TrunkResetShares : Prop :=
  ∀ (c : Instr) (s : State), c ∈ trunkResetCauses → s.trunk.state = .up →
    ∃ t, exec c s = .next t ∧
      t.intake = [] ∧ t.acc = 0 ∧ t.replyQ = [] ∧ t.ctlQ = [] ∧ t.pcl = [] ∧ t.deliveries = [] ∧
      (∀ e : EntryId, t.entries[e] = match s.entries[e] with
        | .queued _ _ => .free
        | .issued h _ => .linger h (s.timeBase + s.timing.cls h.cls)
        | .answered h true => .linger h (s.timeBase + s.timing.cls h.cls)
        | .answered _ false => .free
        | .linger h d => .linger h d
        | .free => .free) ∧
      (∀ w : WindowId, t.windows[w] =
        if s.windows[w].state = .retiring then Window.blank else { s.windows[w] with inFlight := 0 }) ∧
      (∀ b : BranchId, t.branches[b] = { s.branches[b] with
        queue := [], stallTimer := none
        state := if s.branches[b].state = .draining then .fenced else s.branches[b].state
        drainLend := if s.branches[b].state = .draining then false else s.branches[b].drainLend }) ∧
      (∀ n : LineId, n ≠ internalLine 6 → t.lines[n] =
        if s.lines[n].state = .delivered then { s.lines[n] with state := .pending, again := false } else s.lines[n])

/-! ## Frames received on the trunk -/

/-- A REQUEST or CONTROL frame arrives on an UP trunk: appended below 16 credits held, else discarded with CREDIT-OVERRUN. -/
def Obligations.IntakeArrival : Prop :=
  ∀ (f : Frame) (s : State), f.isOneOf [1, 7] = true → f.sizeOk = true → s.trunk.state = .up →
    (s.creditsHeld < 16 →
      ∃ t, exec (.intakeArrival f) s = .next t ∧ t.intake = s.intake ++ [IntakeFrame.ofFrame f] ∧ SameBut [.intake] s t) ∧
    (16 ≤ s.creditsHeld →
      ∃ t, exec (.intakeArrival f) s = .next t ∧
        AttentionOf (s.recordFault
          { kind := .creditOverrun, timestamp := s.timeBase
            address := if f.kind = 1 then some f.requestAddress else none
            upTag := if f.kind = 1 ∧ (f.requestOp = 0 ∨ f.requestOp = 1 ∨ f.requestOp = 3) then some f.requestTag
              else none }) t ∧
        SameBut [.faults, .lines, .counters] s t)

/-- A NOTICE-ACK: the oldest record with its vector leaves the list and its line takes the acknowledge, or it is a stray. -/
def Obligations.NoticeAckMatches : Prop :=
  ∀ (f : Frame) (s : State), f.isOneOf [4] = true → f.sizeOk = true → s.trunk.state = .up → PortsOk s →
    (∀ (pre post : List Delivery) (d : Delivery), s.deliveries = pre ++ d :: post → d.vector = f.lineOrVector →
      (∀ x ∈ pre, x.vector ≠ f.lineOrVector) →
      ∃ t, exec (.noticeAck f) s = .next t ∧ t.deliveries = pre ++ post ∧
        t.lines[d.line] = { s.lines[d.line] with
          state := if s.lines[d.line].again = true then .pending else .idle, again := false } ∧
        OtherLines d.line s t ∧ SameBut [.deliveries, .lines, .branches] s t ∧
        (∀ (b : BranchId) (l : Fin 8), d.line = branchLine b l →
          OtherBranches b s t ∧
          t.branches[b] =
            if s.lines[d.line].release = true ∧ s.branches[b].state.inService = true then
              { s.branches[b] with releaseMarks := s.branches[b].releaseMarks.set l true }
            else s.branches[b]) ∧
        (48 ≤ d.line.val → t.branches = s.branches)) ∧
    ((∀ x ∈ s.deliveries, x.vector ≠ f.lineOrVector) →
      ∃ t, exec (.noticeAck f) s = .next t ∧ AttentionOf s.countStrayAck t ∧ SameBut [.lines, .counters] s t ∧
        t.counters.strayAcks = if s.counters.strayAcks < 65535 then s.counters.strayAcks + 1 else s.counters.strayAcks)

/-- A CREDIT on the trunk changes nothing. A frame of a kind the port does not take in its direction is discarded, with a record in
service and without one in training. The cause is the code received, also where it names no kind (R191, log entry 19). -/
def Obligations.CreditAndUnexpectedFrames : Prop :=
  (∀ (f : Frame) (s : State), f.isOneOf [5] = true → f.sizeOk = true → exec (.trunkCreditReceived f) s = .next s) ∧
  (∀ (f : Frame) (s : State), f.isNoneOf Frame.trunkKinds = true → f.sizeOk = true →
    (s.trunk.state = .up →
      ∃ t, exec (.trunkUnexpectedFrame f) s = .next t ∧
        AttentionOf (s.recordFault
          { kind := .unexpectedFrame, timestamp := s.timeBase, cause := some (.frameKind f.kind) }) t ∧
        SameBut [.faults, .lines, .counters] s t) ∧
    (s.trunk.state = .training → exec (.trunkUnexpectedFrame f) s = .next s)) ∧
  (∀ (b : BranchId) (f : Frame) (s : State), f.isNoneOf Frame.branchKinds = true → f.sizeOk = true →
    (s.branches[b].state.inService = true →
      ∃ t, exec (.branchUnexpectedFrame b f) s = .next t ∧
        AttentionOf (s.recordFault
          { kind := .unexpectedFrame, timestamp := s.timeBase, branch := some b, cause := some (.frameKind f.kind) }) t ∧
        SameBut [.faults, .lines, .counters] s t) ∧
    (s.branches[b].state = .training ∨ s.branches[b].state = .resetting → exec (.branchUnexpectedFrame b f) s = .next s))

/-- A frame outside the sizes of its kind is taken as a frame failing its check, by every command that brings a frame. -/
def Obligations.BadSizeIsCheckFailure : Prop :=
  ∀ (f : Frame) (s : State), f.sizeOk = false →
    (f.isOneOf [1, 7] = true → exec (.intakeArrival f) s = exec .trunkCheckFailure s) ∧
    (f.isOneOf [4] = true → exec (.noticeAck f) s = exec .trunkCheckFailure s) ∧
    (f.isOneOf [5] = true → exec (.trunkCreditReceived f) s = exec .trunkCheckFailure s) ∧
    (f.isNoneOf Frame.trunkKinds = true → exec (.trunkUnexpectedFrame f) s = exec .trunkCheckFailure s) ∧
    ∀ b : BranchId,
      (f.isOneOf [2] = true → exec (.branchReply b f) s = exec (.branchCheckFailure b) s) ∧
      (f.isOneOf [5] = true → exec (.branchCredit b f) s = exec (.branchCheckFailure b) s) ∧
      (f.isOneOf [3] = true → exec (.branchNotice b f) s = exec (.branchCheckFailure b) s) ∧
      (f.isOneOf [8] = true → exec (.withdraw b f) s = exec (.branchCheckFailure b) s) ∧
      (f.isOneOf [9] = true → exec (.unitReturn b f) s = exec (.branchCheckFailure b) s) ∧
      (f.isNoneOf Frame.branchKinds = true → exec (.branchUnexpectedFrame b f) s = exec (.branchCheckFailure b) s)

/-! ## Sends on the trunk -/

/-- A frame has gone: the transmitter is free. -/
def Obligations.FrameSentFreesTransmitter : Prop :=
  (∀ s : State, ∃ t, exec .trunkFrameSent s = .next t ∧ t.trunk = { s.trunk with tx := none } ∧ SameBut [.trunk] s t) ∧
  (∀ (b : BranchId) (s : State), TimerOk s.branches[b] →
    ∃ t, exec (.branchFrameSent b) s = .next t ∧ t.branches[b] = { s.branches[b] with tx := none } ∧
      OtherBranches b s t ∧ SameBut [.branches] s t)

/-- The send of a Reply, of a control reply and of a CREDIT: the frame, the pointer, and what the send reaches. -/
def Obligations.SendsOfAnswersAndCredit : Prop :=
  (∀ (r : Reply) (rest : List Reply) (s : State), s.trunkChoice = some .reply → s.replyQ = r :: rest →
    ∃ t, exec .sendReply s = .next t ∧ t.replyQ = rest ∧
      t.trunk = { s.trunk with
        tx := some (.reply r.tag r.status (if r.status = .ok then r.data else [])), pointer := .notice } ∧
      SameBut [.replyQ, .trunk, .entries, .acc] s t ∧
      (r.origin = .refusal → t.acc = s.acc + 1 ∧ t.entries = s.entries) ∧
      ∀ e : EntryId, r.origin = .entry e → t.acc = s.acc ∧ OtherEntries e s t ∧
        ∀ h : Held,
          (s.entries[e] = .answered h true → t.entries[e] = .linger h (s.timeBase + s.timing.cls h.cls)) ∧
          (s.entries[e] = .answered h false → t.entries[e] = .free)) ∧
  (∀ (r : ControlReply) (rest : List ControlReply) (s : State), s.trunkChoice = some .control → s.ctlQ = r :: rest →
    ∃ t, exec .sendControlReply s = .next t ∧ t.ctlQ = rest ∧
      t.trunk = { s.trunk with tx := some (.controlReply r.seq r.status r.result), pointer := .reply } ∧
      t.acc = (if r.kind = .immediate then s.acc + 1 else s.acc) ∧ SameBut [.ctlQ, .trunk, .acc] s t) ∧
  (∀ s : State, s.trunkChoice = some .credit →
    ∃ t, exec .sendCredit s = .next t ∧ t.acc = 0 ∧ t.trunk = { s.trunk with tx := some (.credit s.acc) } ∧
      SameBut [.acc, .trunk] s t)

/-- The send of a NOTICE: the oldest due record becomes SENT with a new resend deadline; a resend is counted in the record and in the
notice-resends counter, both holding at 65535. -/
def Obligations.SendOfNotice : Prop :=
  ∀ (pre post : List Delivery) (d : Delivery) (s : State), s.trunkChoice = some .notice → s.deliveries = pre ++ d :: post →
    (∀ x ∈ pre, ∃ u, x.send = .sent u) → (∀ u, d.send ≠ .sent u) →
    ∃ t, exec .sendNotice s = .next t ∧
      t.deliveries = pre ++
        { d with
          send := .sent (s.timeBase + s.timing.rsnd)
          resends := if d.send = .resendDue ∧ d.resends < 65535 then d.resends + 1 else d.resends } :: post ∧
      t.trunk = { s.trunk with tx := some (.notice d.vector), pointer := .control } ∧
      t.counters.resends =
        (if d.send = .resendDue ∧ s.counters.resends < 65535 then s.counters.resends + 1 else s.counters.resends) ∧
      (d.send = .resendDue → AttentionOf s.countResend t) ∧ (d.send ≠ .resendDue → AttentionOf s t) ∧
      SameBut [.deliveries, .trunk, .lines, .counters] s t

/-- What the arbiter chooses (R150, R151), and that a send it does not choose stops (the model's choice, log entry 3). -/
def Obligations.ArbiterOrder : Prop :=
  ∀ s : State,
    (s.trunk.state ≠ .up ∨ s.trunk.tx ≠ none → s.trunkChoice = none) ∧
    (s.trunk.state = .up → s.trunk.tx = none →
      ((∃ r ∈ s.ctlQ, r.kind = .completion) → s.trunkChoice = some .control) ∧
      ((∀ r ∈ s.ctlQ, r.kind = .immediate) → 0 < s.acc → s.trunkChoice = some .credit) ∧
      ((∀ r ∈ s.ctlQ, r.kind = .immediate) → s.acc = 0 →
        let control : Option TrunkChoice := if s.ctlQ = [] then none else some .control
        let reply : Option TrunkChoice := if s.replyQ = [] then none else some .reply
        let notice : Option TrunkChoice := if ∀ d ∈ s.deliveries, d.due = false then none else some .notice
        s.trunkChoice = match s.trunk.pointer with
          | .control => control.or (reply.or notice)
          | .reply => reply.or (notice.or control)
          | .notice => notice.or (control.or reply))) ∧
    (s.trunkChoice ≠ some .control → exec .sendControlReply s = .fault .notTrunkChoice) ∧
    (s.trunkChoice ≠ some .credit → exec .sendCredit s = .fault .notTrunkChoice) ∧
    (s.trunkChoice ≠ some .reply → exec .sendReply s = .fault .notTrunkChoice) ∧
    (s.trunkChoice ≠ some .notice → exec .sendNotice s = .fault .notTrunkChoice)

/-! ## The Route Unit -/

/-- The eight steps of 7.3: which of them decides a request. -/
def Obligations.ExaminationOrder : Prop :=
  ∀ (r : Request) (s : State), WindowsOk s →
    (¬GoodRequest r → s.examine r = .refuse .malformed none) ∧
    (GoodRequest r → Duplicate s r → s.examine r = .duplicate) ∧
    (GoodRequest r → ¬Duplicate s r →
      ((∀ w : WindowId, ¬Contains s.windows[w] r.address) → s.examine r = .refuse .noRoute none) ∧
      ∀ w : WindowId, Contains s.windows[w] r.address →
        let win := s.windows[w]
        let last := r.address.toNat + 4 * r.length.toNat - 1
        let allowed :=
          (r.op = 0 ∧ win.rights.read = true) ∨ (r.op = 1 ∧ win.rights.write = true) ∨
          (r.op = 2 ∧ win.rights.posted = true) ∨ (r.op = 3 ∧ win.rights.swap = true)
        (win.base + win.size - 1 < last → s.examine r = .refuse .boundary (some win.branch)) ∧
        (last ≤ win.base + win.size - 1 →
          (¬allowed → s.examine r = .refuse .denied (some win.branch)) ∧
          (allowed → r.hop = 0 → s.examine r = .refuse .hopLimit (some win.branch)) ∧
          (allowed → r.hop ≠ 0 →
            let br := s.branches[win.branch]
            (br.state = .draining ∨ br.state = .fenced ∨ br.state = .lent → s.examine r = .refuse .fenced (some win.branch)) ∧
            (br.state = .down ∨ br.state = .training ∨ br.state = .resetting →
              s.examine r = .refuse .branchDown (some win.branch)) ∧
            (br.state = .active →
              (br.queue.length < 8 ∧ (r.op = 2 ∨ ∃ e : EntryId, s.entries[e] = .free) → s.examine r = .route w) ∧
              (8 ≤ br.queue.length ∨ (r.op ≠ 2 ∧ ∀ e : EntryId, s.entries[e] ≠ .free) → s.examine r = .wait)))))

/-- A request refused or kept waiting: a refusal Reply that holds the credit, a POSTED-DROPPED record with the credit returned, or no
change at all. -/
def Obligations.RefusalsAndWaits : Prop :=
  ∀ (r : Request) (rest : List IntakeFrame) (s : State), s.intake = .request r :: rest →
    (∀ (st : ReplyStatus) (b : Option BranchId), s.examine r = .refuse st b →
      (r.op ≠ 2 →
        ∃ t, exec .routeExamination s = .next t ∧ t.intake = rest ∧ t.replyQ = s.replyQ ++ [⟨r.tag, st, [], .refusal⟩] ∧
          SameBut [.intake, .replyQ] s t) ∧
      (r.op = 2 →
        ∃ t, exec .routeExamination s = .next t ∧ t.intake = rest ∧ t.acc = s.acc + 1 ∧
          AttentionOf (s.recordFault
            { kind := .postedDropped, timestamp := s.timeBase, branch := b, address := some r.address,
              cause := some (.refusal st) }) t ∧
          SameBut [.intake, .acc, .faults, .lines, .counters] s t)) ∧
    (s.examine r = .wait → exec .routeExamination s = .next s)

/-- A duplicate upstream tag: discarded, recorded, its credit returned, and nothing else. -/
def Obligations.DuplicateDiscarded : Prop :=
  ∀ (r : Request) (rest : List IntakeFrame) (s : State), s.intake = .request r :: rest → GoodRequest r → Duplicate s r →
    ∃ t, exec .routeExamination s = .next t ∧ t.intake = rest ∧ t.acc = s.acc + 1 ∧
      AttentionOf (s.recordFault
        { kind := .duplicateTag, timestamp := s.timeBase, upTag := some r.tag, address := some r.address }) t ∧
      SameBut [.intake, .acc, .faults, .lines, .counters] s t

/-- Routing: the lowest FREE entry or a posted item, the item at the tail of the branch's queue, the window counted, the credit
returned. The branch's stall timer follows its conditions. -/
def Obligations.Routing : Prop :=
  ∀ (r : Request) (rest : List IntakeFrame) (w : WindowId) (s : State),
    s.intake = .request r :: rest → s.examine r = .route w →
    let win := s.windows[w]
    let address : Word := BitVec.ofNat 32 (r.address.toNat - win.base + win.target)
    (∀ (o : NpOp) (e : EntryId), Op.ofCode r.op = some o.toOp → s.entries[e] = .free →
      (∀ f : EntryId, f < e → s.entries[f] ≠ .free) →
      ∃ t, exec .routeExamination s = .next t ∧ t.intake = rest ∧ t.acc = s.acc + 1 ∧
        t.entries[e] = .queued ⟨r.tag, o, win.branch, w, address, r.length, r.hop - 1, win.cls⟩ r.data ∧ OtherEntries e s t ∧
        t.branches[win.branch] =
          Branch.restall s.timeBase s.timing.stall
            { s.branches[win.branch] with queue := s.branches[win.branch].queue ++ [.nonPosted e] } ∧
        OtherBranches win.branch s t ∧
        t.windows[w] = { win with inFlight := win.inFlight + 1 } ∧ OtherWindows w s t ∧
        SameBut [.intake, .acc, .entries, .branches, .windows] s t) ∧
    (r.op = 2 →
      ∃ t, exec .routeExamination s = .next t ∧ t.intake = rest ∧ t.acc = s.acc + 1 ∧
        t.branches[win.branch] =
          Branch.restall s.timeBase s.timing.stall
            { s.branches[win.branch] with
              queue := s.branches[win.branch].queue ++ [.posted w address r.length (r.hop - 1) r.data] } ∧
        OtherBranches win.branch s t ∧
        t.windows[w] = { win with inFlight := win.inFlight + 1 } ∧ OtherWindows w s t ∧
        SameBut [.intake, .acc, .branches, .windows] s t)

/-! ## The Control Unit -/

/-- A command code that names no command. -/
def Obligations.BadCommandRefused : Prop :=
  ∀ (c : Control) (rest : List IntakeFrame) (s : State), s.intake = .control c :: rest →
    c.command.toNat = 0 ∨ 15 ≤ c.command.toNat →
    ∃ t, exec .badCommand s = .next t ∧ AnsweredOnly c rest .badCommand [] s t

/-- A wrong operand count, or an operand outside its range, for each of the fourteen commands. -/
def Obligations.BadOperandsRefused : Prop :=
  ∀ (c : Control) (rest : List IntakeFrame) (s : State), s.intake = .control c :: rest →
    1 ≤ c.command.toNat → c.command.toNat ≤ 14 → ¬OperandsInRange c.command.toNat c.operands →
    ∃ t, exec (commandOf c.command.toNat) s = .next t ∧ AnsweredOnly c rest .badOperand [] s t

/-- LOAD-WINDOW with its operands in range. -/
def Obligations.LoadWindowResult : Prop :=
  ∀ (c : Control) (rest : List IntakeFrame) (i : WindowId) (bp sp : Nat) (b : BranchId) (tp ri : Nat) (cl : Fin 4) (s : State),
    s.intake = .control c :: rest → c.command = 1 →
    c.operands = [word i.val, word bp, word sp, word b.val, word tp, word ri, word cl.val] →
    OperandsInRange 1 c.operands → bp < 2 ^ 32 → sp < 2 ^ 32 → tp < 2 ^ 32 → ri < 2 ^ 32 →
    let overlap := ∃ v : WindowId, s.windows[v].state ≠ .empty ∧
      s.windows[v].base < (bp + sp) * 4096 ∧ bp * 4096 < s.windows[v].base + s.windows[v].size
    (s.windows[i].state ≠ .empty → ∃ t, exec .loadWindow s = .next t ∧ AnsweredOnly c rest .inUse [] s t) ∧
    (s.windows[i].state = .empty → overlap → ∃ t, exec .loadWindow s = .next t ∧ AnsweredOnly c rest .overlap [] s t) ∧
    (s.windows[i].state = .empty → ¬overlap →
      ∃ t, exec .loadWindow s = .next t ∧ Answers c rest .done [] s t ∧
        t.windows[i] =
          { state := .live, base := bp * 4096, size := sp * 4096, branch := b, target := tp * 4096
            rights := ⟨ri % 2 = 1, ri / 2 % 2 = 1, ri / 4 % 2 = 1, ri / 8 % 2 = 1⟩
            cls := cl, inFlight := 0 } ∧
        OtherWindows i s t ∧ SameBut [.intake, .ctlQ, .windows] s t)

/-- READ-WINDOW and READ-LINE: the snapshot, and nothing else. -/
def Obligations.ReadWindowAndLine : Prop :=
  (∀ (c : Control) (rest : List IntakeFrame) (i : WindowId) (s : State), s.intake = .control c :: rest → c.command = 2 →
    c.operands = [word i.val] →
    let w := s.windows[i]
    ∃ t, exec .readWindow s = .next t ∧
      AnsweredOnly c rest .done
        [match w.state with | .empty => 0 | .live => 1 | .retiring => 2,
         word (w.base / 4096), word (w.size / 4096), word w.branch.val, word (w.target / 4096),
         word ((if w.rights.read then 1 else 0) + (if w.rights.write then 2 else 0) + (if w.rights.swap then 4 else 0) +
           (if w.rights.posted then 8 else 0)),
         word w.cls.val, word w.inFlight] s t) ∧
  (∀ (c : Control) (rest : List IntakeFrame) (n : LineId) (s : State), s.intake = .control c :: rest → c.command = 5 →
    c.operands = [word n.val] →
    let ln := s.lines[n]
    let fields : List Word :=
      [flagWord ln.enable, word ln.priority.toNat, word ln.vector.toNat, flagWord ln.release,
       match ln.state with | .idle => 0 | .held => 1 | .pending => 2 | .delivered => 3, flagWord ln.again]
    (ln.state ≠ .delivered → ∃ t, exec .readLine s = .next t ∧ AnsweredOnly c rest .done fields s t) ∧
    ∀ (pre post : List Delivery) (d : Delivery), ln.state = .delivered → s.deliveries = pre ++ d :: post → d.line = n →
      (∀ x ∈ pre, x.line ≠ n) →
      ∃ t, exec .readLine s = .next t ∧
        AnsweredOnly c rest .done (fields ++ [word d.vector.toNat, word d.resends, word (pre.length + 1)]) s t)

/-- READ-STATUS: the items of R186 in their order, 46 + 4 × k words; and IDENTIFY. -/
def Obligations.ReadStatusAndIdentify : Prop :=
  (∀ (c : Control) (rest : List IntakeFrame) (s : State), s.intake = .control c :: rest → c.command = 10 → c.operands = [] →
    let branchItems (b : BranchId) : List Word :=
      let br := s.branches[b]
      [match br.state with
        | .down => 0 | .training => 1 | .active => 2 | .draining => 3 | .fenced => 4 | .lent => 5 | .resetting => 6,
       word br.credit, word br.capacity, word br.queue.length, flagWord br.withdraw]
    let stages (n : Nat) : Word := word ((List.finRange 48).countP fun e => decide (s.entries[e].stage = n))
    let record (r : PendingControl) : List Word :=
      [word r.seq.toNat, match r.op with | .retire _ => 3 | .fence _ => 7 | .reset _ => 9,
       match r.op with | .retire w => word w.val | .fence b => word b.val | .reset b => word b.val, r.accepted]
    let result : List Word :=
      [(match s.trunk.state with | .down => 0 | .training => 1 | .up => 2 : Word)] ++
      branchItems 0 ++ branchItems 1 ++ branchItems 2 ++ branchItems 3 ++ branchItems 4 ++ branchItems 5 ++
      [stages 0, stages 1, stages 2, stages 3, stages 4, word rest.length, word s.pcl.length] ++
      (s.pcl.map record).flatten ++
      [word s.counters.lateReplies, word s.counters.coalesced, word s.counters.strayAcks, word s.counters.resends,
       word s.counters.trunkResets, word s.counters.faultOverflows, word s.faults.length, s.timeBase]
    result.length = 46 + 4 * s.pcl.length ∧
    ∃ t, exec .readStatus s = .next t ∧ AnsweredOnly c rest .done result s t) ∧
  (∀ (c : Control) (rest : List IntakeFrame) (s : State), s.intake = .control c :: rest → c.command = 14 → c.operands = [] →
    ∃ t, exec .identify s = .next t ∧ AnsweredOnly c rest .done [7, 6, 1, 6, 32, 48, 16, 56] s t)

/-- RETIRE-WINDOW for every state of its record. -/
def Obligations.RetireWindowResult : Prop :=
  ∀ (c : Control) (rest : List IntakeFrame) (i : WindowId) (s : State), s.intake = .control c :: rest → c.command = 3 →
    c.operands = [word i.val] →
    let w := s.windows[i]
    (w.state = .empty → ∃ t, exec .retireWindow s = .next t ∧ AnsweredOnly c rest .wrongState [] s t) ∧
    (w.state = .retiring → ∃ t, exec .retireWindow s = .next t ∧ AnsweredOnly c rest .already [] s t) ∧
    (w.state = .live → w.inFlight = 0 →
      ∃ t, exec .retireWindow s = .next t ∧ Answers c rest .done [] s t ∧ t.windows[i] = Window.blank ∧
        OtherWindows i s t ∧ SameBut [.intake, .ctlQ, .windows] s t) ∧
    (w.state = .live → 0 < w.inFlight → 4 ≤ s.pcl.length →
      ∃ t, exec .retireWindow s = .next t ∧ AnsweredOnly c rest .busy [] s t) ∧
    (w.state = .live → 0 < w.inFlight → s.pcl.length < 4 →
      ∃ t, exec .retireWindow s = .next t ∧ Accepts c rest (.retire i) s t ∧ t.windows[i] = { w with state := .retiring } ∧
        OtherWindows i s t ∧ SameBut [.intake, .acc, .pcl, .windows] s t)

/-- LOAD-LINE with its operands in range; the release field of an internal line is written as off. -/
def Obligations.LoadLineResult : Prop :=
  ∀ (c : Control) (rest : List IntakeFrame) (n : LineId) (en : Bool) (p : BitVec 3) (v : BitVec 8) (re : Bool) (s : State),
    s.intake = .control c :: rest → c.command = 4 →
    c.operands = [word n.val, flagWord en, word p.toNat, word v.toNat, flagWord re] →
    ∃ t, exec .loadLine s = .next t ∧ Answers c rest .done [] s t ∧
      t.lines[n] =
        { enable := en, priority := p, vector := v, release := if n.val < 48 then re else false
          state := if s.lines[n].state = .held ∧ en = true then .pending else s.lines[n].state
          again := s.lines[n].again } ∧
      OtherLines n s t ∧ SameBut [.intake, .ctlQ, .lines] s t

/-- SET-TIMING with its operands in range, and CLEAR-COUNTERS. -/
def Obligations.SetTimingAndClearCounters : Prop :=
  (∀ (c : Control) (rest : List IntakeFrame) (c0 c1 c2 c3 r st : Word) (s : State), s.intake = .control c :: rest →
    c.command = 6 → c.operands = [c0, c1, c2, c3, r, st] → OperandsInRange 6 c.operands →
    ∃ t, exec .setTiming s = .next t ∧ Answers c rest .done [] s t ∧
      t.timing = { cls0 := c0, cls1 := c1, cls2 := c2, cls3 := c3, rsnd := r, stall := st } ∧
      SameBut [.intake, .ctlQ, .timing] s t) ∧
  (∀ (c : Control) (rest : List IntakeFrame) (s : State), s.intake = .control c :: rest → c.command = 12 → c.operands = [] →
    ∃ t, exec .clearCounters s = .next t ∧ Answers c rest .done [] s t ∧ t.counters = ⟨0, 0, 0, 0, 0, 0⟩ ∧
      SameBut [.intake, .ctlQ, .counters] s t)

/-- TAKE-FAULTS with its operand in range: the min(n, depth) oldest records leave and are returned. The codes of kinds and causes are
those of the table of R191. -/
def Obligations.TakeFaultsResult : Prop :=
  [FaultKind.duplicateTag, .creditOverrun, .strayReply, .lengthMismatch, .badNotice, .unexpectedFrame, .postedDropped, .creditExcess,
    .branchLost].map FaultKind.code = [0, 1, 2, 3, 4, 5, 6, 7, 8] ∧
  (∀ k : BitVec 4, FaultCause.code (.frameKind k) = k.toNat) ∧
  [ReplyStatus.ok, .noRoute, .boundary, .denied, .hopLimit, .fenced, .branchDown, .timeout, .targetError, .aborted, .malformed].map
    (fun st => FaultCause.code (.refusal st)) = [0, 1, 2, 3, 4, 5, 6, 7, 8, 9, 10] ∧
  [LossCause.signalLost, .check, .partnerReset, .stall, .reset].map (fun k => FaultCause.code (.loss k)) = [0, 1, 2, 3, 4] ∧
  ∀ (c : Control) (rest : List IntakeFrame) (n : Nat) (taken left : List FaultRecord) (s : State),
    s.intake = .control c :: rest → c.command = 11 → c.operands = [word n] → 1 ≤ n → n ≤ 8 →
    s.faults = taken ++ left → taken.length = min n s.faults.length →
    let one (x : Option Nat) : List Word := match x with | some k => [word k] | none => []
    let bit (x : Bool) (k : Nat) : Nat := if x then k else 0
    let record (f : FaultRecord) : List Word :=
      [word f.kind.code,
       word (bit f.branch.isSome 1 + bit f.upTag.isSome 2 + bit f.downTag.isSome 4 + bit f.address.isSome 8 +
         bit f.cause.isSome 16 + bit f.count.isSome 32),
       f.timestamp] ++
      one (f.branch.map (·.val)) ++ one (f.upTag.map (·.toNat)) ++ one (f.downTag.map (·.toNat)) ++
      one (f.address.map (·.toNat)) ++ one (f.cause.map FaultCause.code) ++ one f.count
    ∃ t, exec .takeFaults s = .next t ∧ t.faults = left ∧
      Answers c rest .done (word taken.length :: (taken.map record).flatten) s t ∧ SameBut [.intake, .ctlQ, .faults] s t

/-- FENCE-BRANCH for every state of its branch. -/
def Obligations.FenceBranchResult : Prop :=
  ∀ (c : Control) (rest : List IntakeFrame) (b : BranchId) (lend : Bool) (s : State), s.intake = .control c :: rest →
    c.command = 7 → c.operands = [word b.val, flagWord lend] → PortsOk s →
    let br := s.branches[b]
    let work := br.queue ≠ [] ∨ ∃ (e : EntryId) (h : Held) (d : Time), s.entries[e] = .issued h d ∧ h.branch = b
    let fenced : Branch := { br with state := .fenced, stallTimer := none }
    let lent : Branch := { br with state := .lent, stallTimer := none, lendWanted := .granted, withdraw := false }
    (br.state = .down ∨ br.state = .training ∨ br.state = .resetting →
      ∃ t, exec .fenceBranch s = .next t ∧ AnsweredOnly c rest .wrongState [] s t) ∧
    (br.state = .draining → ∃ t, exec .fenceBranch s = .next t ∧ AnsweredOnly c rest .already [] s t) ∧
    (br.state = .lent → ∃ t, exec .fenceBranch s = .next t ∧ AnsweredOnly c rest .done [] s t) ∧
    (br.state = .fenced ∨ (br.state = .active ∧ ¬work) →
      ∃ t, exec .fenceBranch s = .next t ∧ Answers c rest .done [] s t ∧
        t.branches[b] = (if lend = true then lent else fenced) ∧ OtherBranches b s t ∧
        SameBut [.intake, .ctlQ, .branches] s t) ∧
    (br.state = .active → work → 4 ≤ s.pcl.length →
      ∃ t, exec .fenceBranch s = .next t ∧ AnsweredOnly c rest .busy [] s t) ∧
    (br.state = .active → work → s.pcl.length < 4 →
      ∃ t, exec .fenceBranch s = .next t ∧ Accepts c rest (.fence b) s t ∧
        t.branches[b] = { br with state := .draining, drainLend := lend } ∧ OtherBranches b s t ∧
        SameBut [.intake, .acc, .pcl, .branches] s t)

/-- UNFENCE-BRANCH for every state of its branch. -/
def Obligations.UnfenceBranchResult : Prop :=
  ∀ (c : Control) (rest : List IntakeFrame) (b : BranchId) (s : State), s.intake = .control c :: rest →
    c.command = 8 → c.operands = [word b.val] → PortsOk s →
    let br := s.branches[b]
    let aborts (op : LongOp) : Option ControlStatus := if op = .fence b then some .aborted else none
    (br.state = .down ∨ br.state = .training ∨ br.state = .resetting →
      ∃ t, exec .unfenceBranch s = .next t ∧ AnsweredOnly c rest .wrongState [] s t) ∧
    (br.state = .active → ∃ t, exec .unfenceBranch s = .next t ∧ AnsweredOnly c rest .notFenced [] s t) ∧
    (br.state = .draining →
      ∃ t, exec .unfenceBranch s = .next t ∧ t.intake = rest ∧
        t.branches[b] = { br with state := .active, drainLend := false } ∧ OtherBranches b s t ∧
        t.pcl = (s.complete aborts).pcl ∧
        t.ctlQ = (s.complete aborts).ctlQ ++ [⟨c.seq, .done, [], .immediate⟩] ∧
        SameBut [.intake, .ctlQ, .pcl, .branches] s t) ∧
    (br.state = .fenced ∨ br.state = .lent → br.queue = [] →
      ∃ t, exec .unfenceBranch s = .next t ∧ Answers c rest .done [] s t ∧
        t.branches[b] = { br with
          state := .active, lendWanted := if br.state = .lent then .notGranted else br.lendWanted } ∧
        OtherBranches b s t ∧ SameBut [.intake, .ctlQ, .branches] s t)

/-- RESET-BRANCH: its checks in order, and the effects of its acceptance. The reset sequence is shown by the model's own count
(log entry 12). A fence pending on the branch ends ABORTED and the loss effects find no fence (R96, R97). Its answer and those of the
retires that the loss ends are placed fence first (R97), or all in the order of the list (R183); the rules leave open which, and the
model too (log entry 10). -/
def Obligations.ResetBranchResult : Prop :=
  ∀ (c : Control) (rest : List IntakeFrame) (b : BranchId) (s : State), s.intake = .control c :: rest →
    c.command = 9 → c.operands = [word b.val] →
    let br := s.branches[b]
    let fencePending := ∃ r ∈ s.pcl, r.op = .fence b
    let reset : Branch :=
      { br with
        state := .resetting, ignorePartner := false, partnerWait := some (s.timeBase + 50000), resetSeqs := br.resetSeqs + 1
        tx := none, stallTimer := none }
    let aborts (op : LongOp) : Option ControlStatus := if op = .fence b then some .aborted else none
    let posted : Nat := br.queue.countP Item.isPosted
    let a : State := s.complete aborts
    let fenceFirst : List ControlReply := (a.complete (lossCompletes s b)).ctlQ
    let inListOrder : List ControlReply := (s.complete fun op => (aborts op).or (lossCompletes s b op)).ctlQ
    let s' : State := { s with lines := lostLines s b }
    (∀ r ∈ a.pcl, r.op ≠ .fence b) ∧
    (br.state = .resetting → ∃ t, exec .resetBranch s = .next t ∧ AnsweredOnly c rest .already [] s t) ∧
    (br.state ≠ .resetting → ¬fencePending → 4 ≤ s.pcl.length →
      ∃ t, exec .resetBranch s = .next t ∧ AnsweredOnly c rest .busy [] s t) ∧
    (br.state = .down ∨ br.state = .training → fencePending ∨ s.pcl.length < 4 →
      ∃ t, exec .resetBranch s = .next t ∧ t.intake = rest ∧ t.acc = s.acc + 1 ∧
        t.pcl = a.pcl ++ [⟨c.seq, .reset b, s.timeBase⟩] ∧ t.ctlQ = a.ctlQ ∧
        t.branches[b] = reset ∧ OtherBranches b s t ∧ SameBut [.intake, .acc, .ctlQ, .pcl, .branches] s t) ∧
    (br.state.inService = true → fencePending ∨ s.pcl.length < 4 →
      ∃ t, exec .resetBranch s = .next t ∧ t.intake = rest ∧ t.acc = s.acc + 1 ∧ LossSettles b s t ∧
        (t.ctlQ = fenceFirst ∨ t.ctlQ = inListOrder) ∧
        t.pcl = (a.complete (lossCompletes s b)).pcl ++ [⟨c.seq, .reset b, s.timeBase⟩] ∧
        t.branches[b] = clearedPort reset ∧ OtherBranches b s t ∧
        AttentionOf (s'.recordFault
          { kind := .branchLost, timestamp := s.timeBase, branch := some b, cause := some (.loss .reset), count := some posted }) t ∧
        SameBut [.intake, .acc, .ctlQ, .pcl, .branches, .entries, .replyQ, .windows, .lines, .faults, .counters] s t)

/-- CLEAR-PATH: the five parts of its one event. A DRAINING branch without work is taken as drained. -/
def Obligations.ClearPathResult : Prop :=
  ∀ (c : Control) (rest : List IntakeFrame) (s : State), s.intake = .control c :: rest → c.command = 13 → c.operands = [] →
    let ends (op : LongOp) : Option ControlStatus :=
      match op with
      | .retire w => if s.windows[w].state = .retiring then some .done else none
      | .fence b => if s.branches[b].state = .draining then some .done else none
      | .reset _ => none
    ∃ t, exec .clearPath s = .next t ∧ t.intake = rest ∧
      (∀ e : EntryId, t.entries[e] = match s.entries[e] with
        | .queued h _ => .answered h false
        | .issued h _ => .answered h true
        | .free => .free
        | .answered h o => .answered h o
        | .linger h d => .linger h d) ∧
      t.replyQ = s.replyQ ++ (List.finRange 48).filterMap (fun e => match s.entries[e] with
        | .queued h _ => some ⟨h.tag, .aborted, [], .entry e⟩
        | .issued h _ => some ⟨h.tag, .aborted, [], .entry e⟩
        | .free => none
        | .answered _ _ => none
        | .linger _ _ => none) ∧
      (∀ w : WindowId, t.windows[w] =
        if s.windows[w].state = .retiring then Window.blank else { s.windows[w] with inFlight := 0 }) ∧
      (∀ b : BranchId, t.branches[b] =
        if s.branches[b].state = .draining ∧ s.branches[b].drainLend = true then
          { s.branches[b] with
            queue := [], stallTimer := none, state := .lent, drainLend := false, lendWanted := .granted, withdraw := false }
        else if s.branches[b].state = .draining then
          { s.branches[b] with queue := [], stallTimer := none, state := .fenced, drainLend := false }
        else { s.branches[b] with queue := [], stallTimer := none }) ∧
      t.pcl = (s.complete ends).pcl ∧ t.ctlQ = (s.complete ends).ctlQ ++ [⟨c.seq, .done, [], .immediate⟩] ∧
      SameBut [.intake, .entries, .replyQ, .windows, .branches, .pcl, .ctlQ] s t

/-! ## The branch links -/

/-- A branch link out of service: the signal appears, check failures and lost signals are no loss, and no frame but the training
exchange is taken. A signal that appears in RESETTING lets training proceed; one that appears during power-on reset is noted alone, to
be taken on leaving it. That a restart of training changes no state held is log entry 13; frames in DOWN and a signal that appears where
one is present are log entry 4; no completion without a signal is log entry 16. -/
def Obligations.BranchLinkOutOfService : Prop :=
  ∀ (b : BranchId) (s : State), PortsOk s →
    let br := s.branches[b]
    (s.porst = false → br.state = .down → br.ignorePartner = false →
      ∃ t, exec (.branchPartnerAppears b) s = .next t ∧ t.branches[b] = { br with partner := true, state := .training } ∧
        OtherBranches b s t ∧ SameBut [.branches] s t) ∧
    (br.state = .down → br.ignorePartner = true → br.partner = true → exec (.branchPartnerAppears b) s = .next s) ∧
    (s.porst = true ∨ br.state ≠ .down →
      ∃ t, exec (.branchPartnerAppears b) s = .next t ∧ t.branches[b] = { br with partner := true } ∧
        OtherBranches b s t ∧ SameBut [.branches] s t ∧
        (br.state = .resetting → ∀ capacity : BitVec 4, 1 ≤ capacity.toNat →
          ∃ u, exec (.branchTrainingComplete b capacity) t = .next u ∧ u.branches[b].state = .active)) ∧
    (br.partner = false → ∀ capacity : BitVec 4, exec (.branchTrainingComplete b capacity) s = .next s) ∧
    (br.state.inService = false →
      exec (.branchCheckFailure b) s = .next s ∧ exec (.branchResetSequenceReceived b) s = .next s ∧
      ∃ t, exec (.branchPartnerLost b) s = .next t ∧
        t.branches[b] = { br with
          partner := false, ignorePartner := false, state := if br.state = .training then .down else br.state } ∧
        OtherBranches b s t ∧ SameBut [.branches] s t) ∧
    (br.state.inService = false → ∀ f : Frame, f.sizeOk = true →
      (f.isOneOf [2] = true → exec (.branchReply b f) s = .next s) ∧
      (f.isOneOf [5] = true → exec (.branchCredit b f) s = .next s) ∧
      (f.isOneOf [3] = true → exec (.branchNotice b f) s = .next s) ∧
      (f.isOneOf [8] = true → exec (.withdraw b f) s = .next s) ∧
      (f.isOneOf [9] = true → exec (.unitReturn b f) s = .next s) ∧
      (f.isNoneOf Frame.branchKinds = true → exec (.branchUnexpectedFrame b f) s = .next s))

/-- Training completes in TRAINING: ACTIVE with the capacity taken (9..15 as 8) and the credit equal to it, and I2 raised; a capacity
of 0 completes nothing. The queue of a branch in training is empty (an invariant), so its stall timer does not start. -/
def Obligations.BranchTrainingCompletes : Prop :=
  ∀ (b : BranchId) (capacity : BitVec 4) (s : State),
    (capacity = 0 → exec (.branchTrainingComplete b capacity) s = .next s) ∧
    (1 ≤ capacity.toNat → s.branches[b].state = .training → s.branches[b].partner = true → s.branches[b].queue = [] →
      let taken := if 8 < capacity.toNat then 8 else capacity.toNat
      ∃ t, exec (.branchTrainingComplete b capacity) s = .next t ∧
        t.branches[b] = { s.branches[b] with
          state := .active, capacity := taken, credit := taken, partnerWait := none, stallTimer := none } ∧
        OtherBranches b s t ∧ AttentionOf (s.raiseInternal 2) t ∧ SameBut [.branches, .lines, .counters] s t)

/-- The two ends of a reset: training completes while RESETTING, or the partner wait expires. A reset without a record, after a
trunk reset, ends without a reply. -/
def Obligations.ResetEnds : Prop :=
  ∀ (b : BranchId) (s : State), s.branches[b].state = .resetting → PortsOk s →
    let ends (st : ControlStatus) (op : LongOp) : Option ControlStatus := if op = .reset b then some st else none
    (∀ capacity : BitVec 4, 1 ≤ capacity.toNat → s.branches[b].partner = true → s.branches[b].queue = [] →
      let taken := if 8 < capacity.toNat then 8 else capacity.toNat
      ∃ t, exec (.branchTrainingComplete b capacity) s = .next t ∧
        t.branches[b] = { s.branches[b] with state := .active, capacity := taken, credit := taken, partnerWait := none } ∧
        OtherBranches b s t ∧ AttentionOf (s.raiseInternal 2) t ∧
        t.pcl = (s.complete (ends .done)).pcl ∧ t.ctlQ = (s.complete (ends .done)).ctlQ ∧
        SameBut [.branches, .lines, .counters, .pcl, .ctlQ] s t) ∧
    (∀ deadline : Time, s.branches[b].partnerWait = some deadline →
      (reached deadline s.timeBase = true →
        ∃ t, exec (.partnerWaitExpiry b) s = .next t ∧
          t.branches[b] = { s.branches[b] with
            state := .down, ignorePartner := s.branches[b].partner, partnerWait := none } ∧
          OtherBranches b s t ∧
          t.pcl = (s.complete (ends .noPartner)).pcl ∧ t.ctlQ = (s.complete (ends .noPartner)).ctlQ ∧
          SameBut [.branches, .pcl, .ctlQ] s t) ∧
      (reached deadline s.timeBase = false → exec (.partnerWaitExpiry b) s = .fault .notDue))

/-- A branch loss by each of its four causes. The reset sequence is shown by the model's own count (log entry 12). -/
def Obligations.BranchLoss : Prop :=
  ∀ (c : Instr) (cause : LossCause) (b : BranchId) (s : State), s.branches[b].state.inService = true →
    (c = .branchPartnerLost b ∧ cause = .signalLost) ∨ (c = .branchCheckFailure b ∧ cause = .check) ∨
    (c = .branchResetSequenceReceived b ∧ cause = .partnerReset) ∨
    (c = .stallTimerExpiry b ∧ cause = .stall ∧
      ∃ deadline, s.branches[b].stallTimer = some deadline ∧ reached deadline s.timeBase = true) →
    let br := s.branches[b]
    let present : Bool := if cause = .signalLost then false else br.partner
    let s' : State := { s with lines := lostLines s b }
    ∃ t, exec c s = .next t ∧ LossSettles b s t ∧
      t.pcl = (s.complete (lossCompletes s b)).pcl ∧ t.ctlQ = (s.complete (lossCompletes s b)).ctlQ ∧
      t.branches[b] =
        clearedPort { br with
          state := if present = true then .training else .down
          partner := present
          ignorePartner := if cause = .signalLost then false else br.ignorePartner
          resetSeqs := if cause = .check ∨ cause = .stall then br.resetSeqs + 1 else br.resetSeqs } ∧
      OtherBranches b s t ∧
      AttentionOf ((s'.raiseInternal 1).recordFault
        { kind := .branchLost, timestamp := s.timeBase, branch := some b, cause := some (.loss cause),
          count := some (br.queue.countP Item.isPosted) }) t ∧
      SameBut [.branches, .entries, .replyQ, .windows, .pcl, .ctlQ, .lines, .faults, .counters] s t

/-! ## Frames received on a branch -/

/-- A reply that matches an ISSUED entry of its branch. -/
def Obligations.MatchedReply : Prop :=
  ∀ (b : BranchId) (f : Frame) (e : EntryId) (h : Held) (d : Time) (s : State),
    f.isOneOf [2] = true → f.sizeOk = true → f.replyTag.toNat = e.val → s.branches[b].state.inService = true →
    s.entries[e] = .issued h d → h.branch = b →
    let words := match h.op with | .read => h.length.toNat | .swap => 1 | .write => 0
    (f.replyStatus = 0 → f.replyData.length = words →
      ∃ t, exec (.branchReply b f) s = .next t ∧ AnswerLeaves e h false .ok f.replyData s t ∧
        SameBut [.entries, .windows, .branches, .pcl, .ctlQ, .replyQ] s t) ∧
    (f.replyStatus = 0 → f.replyData.length ≠ words →
      ∃ t, exec (.branchReply b f) s = .next t ∧ AnswerLeaves e h false .targetError [] s t ∧
        AttentionOf (s.recordFault
          { kind := .lengthMismatch, timestamp := s.timeBase, branch := some b, upTag := some h.tag,
            downTag := some (BitVec.ofNat 6 e.val), address := some h.address, count := some f.replyData.length }) t ∧
        SameBut [.entries, .windows, .branches, .pcl, .ctlQ, .replyQ, .faults, .lines, .counters] s t) ∧
    (∀ st : ReplyStatus, st ≠ .ok → f.replyStatus.toNat = st.code →
      ∃ t, exec (.branchReply b f) s = .next t ∧ AnswerLeaves e h false st [] s t ∧
        SameBut [.entries, .windows, .branches, .pcl, .ctlQ, .replyQ] s t) ∧
    (11 ≤ f.replyStatus.toNat →
      ∃ t, exec (.branchReply b f) s = .next t ∧ AnswerLeaves e h false .targetError [] s t ∧
        SameBut [.entries, .windows, .branches, .pcl, .ctlQ, .replyQ] s t)

/-- A late reply: the flag is cleared or the linger ended, the late-replies counter incremented, and nothing else. -/
def Obligations.LateReply : Prop :=
  ∀ (b : BranchId) (f : Frame) (e : EntryId) (h : Held) (d : Time) (s : State),
    f.isOneOf [2] = true → f.sizeOk = true → f.replyTag.toNat = e.val → s.branches[b].state.inService = true → h.branch = b →
    s.entries[e] = .answered h true ∨ s.entries[e] = .linger h d →
    ∃ t, exec (.branchReply b f) s = .next t ∧
      t.entries[e] = (if s.entries[e] = .answered h true then .answered h false else .free) ∧ OtherEntries e s t ∧
      AttentionOf s.countLate t ∧ SameBut [.entries, .lines, .counters] s t ∧
      (s.counters.lateReplies < 65534 →
        t.counters = { s.counters with lateReplies := s.counters.lateReplies + 1 } ∧ t.lines = s.lines)

/-- A stray reply: every case of the table of R27 that is neither matched nor late. -/
def Obligations.StrayReply : Prop :=
  ∀ (b : BranchId) (f : Frame) (s : State), f.isOneOf [2] = true → f.sizeOk = true → s.branches[b].state.inService = true →
    (∀ e : EntryId, f.replyTag.toNat = e.val →
      match s.entries[e] with
      | .issued h _ => h.branch ≠ b
      | .answered h true => h.branch ≠ b
      | .linger h _ => h.branch ≠ b
      | .answered _ false => True
      | .queued _ _ => True
      | .free => True) →
    ∃ t, exec (.branchReply b f) s = .next t ∧
      AttentionOf (s.recordFault
        { kind := .strayReply, timestamp := s.timeBase, branch := some b, downTag := some f.replyTag }) t ∧
      SameBut [.faults, .lines, .counters] s t

/-- A CREDIT on a branch: added up to the capacity, the excess recorded; not taken in training. -/
def Obligations.BranchCreditFrame : Prop :=
  ∀ (b : BranchId) (f : Frame) (s : State), f.isOneOf [5] = true → f.sizeOk = true → PortsOk s →
    let br := s.branches[b]
    let n := f.creditCount
    (br.state = .training ∨ br.state = .resetting → exec (.branchCredit b f) s = .next s) ∧
    (br.state.inService = true → br.credit + n ≤ br.capacity →
      ∃ t, exec (.branchCredit b f) s = .next t ∧ t.branches[b] = { br with credit := br.credit + n, stallTimer := none } ∧
        OtherBranches b s t ∧ SameBut [.branches] s t) ∧
    (br.state.inService = true → br.capacity < br.credit + n →
      ∃ t, exec (.branchCredit b f) s = .next t ∧ t.branches[b] = { br with credit := br.capacity, stallTimer := none } ∧
        OtherBranches b s t ∧
        AttentionOf (s.recordFault
          { kind := .creditExcess, timestamp := s.timeBase, branch := some b, count := some (br.credit + n - br.capacity) }) t ∧
        SameBut [.branches, .faults, .lines, .counters] s t)

/-- A NOTICE on a branch: 0..7 raises the line, a value above 7 is recorded; not taken in training. -/
def Obligations.BranchNoticeFrame : Prop :=
  ∀ (b : BranchId) (f : Frame) (s : State), f.isOneOf [3] = true → f.sizeOk = true →
    (s.branches[b].state = .training ∨ s.branches[b].state = .resetting → exec (.branchNotice b f) s = .next s) ∧
    (s.branches[b].state.inService = true →
      (∀ l : Fin 8, f.lineOrVector.toNat = l.val →
        ∃ t, exec (.branchNotice b f) s = .next t ∧ AttentionOf (s.raise (branchLine b l)) t ∧
          SameBut [.lines, .counters] s t) ∧
      (8 ≤ f.lineOrVector.toNat →
        ∃ t, exec (.branchNotice b f) s = .next t ∧
          AttentionOf (s.recordFault
            { kind := .badNotice, timestamp := s.timeBase, branch := some b, count := some f.lineOrVector.toNat }) t ∧
          SameBut [.faults, .lines, .counters] s t))

/-- WITHDRAW and RETURN in every branch state but DOWN, which has no link. -/
def Obligations.WithdrawAndReturn : Prop :=
  ∀ (b : BranchId) (f : Frame) (s : State), f.sizeOk = true → PortsOk s →
    let br := s.branches[b]
    let unexpected : State := s.recordFault { kind := .unexpectedFrame, timestamp := s.timeBase, branch := some b }
    (f.isOneOf [8] = true →
      (br.state = .active ∨ br.state = .draining ∨ br.state = .fenced →
        ∃ t, exec (.withdraw b f) s = .next t ∧ t.branches[b] = { br with withdraw := true } ∧ OtherBranches b s t ∧
          AttentionOf (s.raiseInternal 3) t ∧ SameBut [.branches, .lines, .counters] s t) ∧
      (br.state = .lent →
        ∃ t, exec (.withdraw b f) s = .next t ∧ AttentionOf unexpected t ∧ SameBut [.faults, .lines, .counters] s t) ∧
      (br.state = .training ∨ br.state = .resetting → exec (.withdraw b f) s = .next s)) ∧
    (f.isOneOf [9] = true →
      (br.state = .lent →
        ∃ t, exec (.unitReturn b f) s = .next t ∧
          t.branches[b] = { br with state := .fenced, lendWanted := .notGranted, lendTold := .notGranted } ∧
          OtherBranches b s t ∧ AttentionOf (s.raiseInternal 4) t ∧ SameBut [.branches, .lines, .counters] s t) ∧
      (br.state = .active ∨ br.state = .draining ∨ br.state = .fenced →
        ∃ t, exec (.unitReturn b f) s = .next t ∧ AttentionOf unexpected t ∧ SameBut [.faults, .lines, .counters] s t) ∧
      (br.state = .training ∨ br.state = .resetting → exec (.unitReturn b f) s = .next s))

/-! ## Sends on a branch -/

/-- The port's choice of a link-control frame in service with its transmitter free, and the effect of each; and what the port does not
send: nothing with its transmitter busy or out of service, GRANT and RECLAIM only towards lend wanted, RELEASE only for a mark and not
while lend wanted differs from lend told. A send that is not the port's choice stops (the model's choice, log entry 3). -/
def Obligations.LinkControlSends : Prop :=
  (∀ (b : BranchId) (s : State), PortsOk s → s.branches[b].state.inService = true → s.branches[b].tx = none →
    let br := s.branches[b]
    (br.lendWanted = .granted → br.lendTold = .notGranted →
      ∃ t, exec (.sendGrant b) s = .next t ∧ t.branches[b] = { br with lendTold := .granted, tx := some .grant } ∧
        OtherBranches b s t ∧ SameBut [.branches] s t) ∧
    (br.lendWanted = .notGranted → br.lendTold = .granted →
      ∃ t, exec (.sendReclaim b) s = .next t ∧ t.branches[b] = { br with lendTold := .notGranted, tx := some .reclaim } ∧
        OtherBranches b s t ∧ SameBut [.branches] s t) ∧
    (br.lendWanted = br.lendTold → ∀ l : Fin 8, br.releaseMarks[l] = true →
      (∀ k : Fin 8, k < l → br.releaseMarks[k] = false) →
      ∃ t, exec (.sendRelease b) s = .next t ∧
        t.branches[b] = { br with releaseMarks := br.releaseMarks.set l false, tx := some (.release l) } ∧
        OtherBranches b s t ∧ SameBut [.branches] s t)) ∧
  ∀ (b : BranchId) (s : State),
    let br := s.branches[b]
    let stops (c : Instr) : Prop := exec c s = .fault .notBranchChoice
    (br.tx ≠ none ∨ br.state.inService = false → stops (.sendGrant b) ∧ stops (.sendReclaim b) ∧ stops (.sendRelease b)) ∧
    (br.lendWanted = .notGranted ∨ br.lendTold = .granted → stops (.sendGrant b)) ∧
    (br.lendWanted = .granted ∨ br.lendTold = .notGranted → stops (.sendReclaim b)) ∧
    (br.lendWanted ≠ br.lendTold → stops (.sendRelease b)) ∧
    ((∀ l : Fin 8, br.releaseMarks[l] = false) → stops (.sendRelease b))

/-- The stall timer after any change of a port: running exactly while the queue is not empty, the credit 0 and the branch ACTIVE or
DRAINING, with the deadline of its start. The issue of the head item, when R61 allows and no link-control frame waits. And when no item
is issued: with the transmitter busy, a link-control frame waiting, the credit 0, another branch state, or no item of the kind at the
head; an issue then stops (the model's choice, log entry 3). -/
def Obligations.StallTimerAndIssue : Prop :=
  (∀ (now length : Time) (br : Branch),
    let runs := br.queue ≠ [] ∧ br.credit = 0 ∧ (br.state = .active ∨ br.state = .draining)
    (¬runs → br.restall now length = { br with stallTimer := none }) ∧
    (runs → br.stallTimer = none → br.restall now length = { br with stallTimer := some (now + length) }) ∧
    (runs → ∀ deadline, br.stallTimer = some deadline → br.restall now length = br)) ∧
  (∀ (b : BranchId) (s : State),
    let br := s.branches[b]
    let waits := br.lendWanted ≠ br.lendTold ∨ ∃ l : Fin 8, br.releaseMarks[l] = true
    (br.tx ≠ none ∨ waits ∨ br.credit = 0 ∨ (br.state ≠ .active ∧ br.state ≠ .draining) ∨ br.queue = [] →
      exec (.issueNonPosted b) s = .fault .notBranchChoice ∧ exec (.issuePosted b) s = .fault .notBranchChoice) ∧
    (∀ (i : Item) (rest : List Item), br.queue = i :: rest →
      (i.isPosted = true → exec (.issueNonPosted b) s = .fault .notBranchChoice) ∧
      (i.isPosted = false → exec (.issuePosted b) s = .fault .notBranchChoice))) ∧
  ∀ (b : BranchId) (rest : List Item) (s : State),
    s.branches[b].state = .active ∨ s.branches[b].state = .draining → 0 < s.branches[b].credit → s.branches[b].tx = none →
    s.branches[b].lendWanted = s.branches[b].lendTold → s.branches[b].releaseMarks = Vector.replicate 8 false →
    let br := s.branches[b]
    let issued (frame : BranchFrame) : Branch :=
      Branch.restall s.timeBase s.timing.stall { br with queue := rest, credit := br.credit - 1, tx := some frame }
    (∀ (e : EntryId) (h : Held) (data : List Word), br.queue = .nonPosted e :: rest → s.entries[e] = .queued h data →
      ∃ t, exec (.issueNonPosted b) s = .next t ∧
        t.entries[e] = .issued h (s.timeBase + s.timing.cls h.cls) ∧ OtherEntries e s t ∧
        t.branches[b] = issued (.request h.op.toOp (BitVec.ofNat 6 e.val) h.address h.length h.hop data) ∧
        OtherBranches b s t ∧ SameBut [.entries, .branches] s t) ∧
    (∀ (w : WindowId) (address : Word) (length : BitVec 5) (hop : BitVec 3) (data : List Word),
      br.queue = .posted w address length hop data :: rest →
      let u : State := { s with
        branches := s.branches.set b (issued (.request .postedWrite 0 address length hop data))
        windows := s.windows.set w { s.windows[w] with inFlight := s.windows[w].inFlight - 1 } }
      ∃ t, exec (.issuePosted b) s = .next t ∧
        SettledAs (u.settle (fun v => decide (v = w)) (fun c => decide (c = b))) t ∧
        SameBut [.branches, .windows, .pcl, .ctlQ] s t)

/-! ## Deadlines, notices and completions -/

/-- When a deadline is reached (R46), what the length of a class is (R49), and the expiries of a request deadline, a linger deadline and
a resend deadline, each when it is reached. An expiry that is not due stops (the model's choice, log entry 3). -/
def Obligations.Expiries : Prop :=
  (∀ d now : Time, reached d now = false ↔ 1 ≤ (d - now).toNat ∧ (d - now).toNat ≤ 2147483647) ∧
  (∀ k : Timing, k.cls 0 = k.cls0 ∧ k.cls 1 = k.cls1 ∧ k.cls 2 = k.cls2 ∧ k.cls 3 = k.cls3) ∧
  ∀ s : State,
    (∀ (e : EntryId) (h : Held) (d : Time), s.entries[e] = .issued h d →
      (reached d s.timeBase = true →
        ∃ t, exec (.requestDeadlineExpiry e) s = .next t ∧ AnswerLeaves e h true .timeout [] s t ∧
          SameBut [.entries, .windows, .branches, .pcl, .ctlQ, .replyQ] s t) ∧
      (reached d s.timeBase = false → exec (.requestDeadlineExpiry e) s = .fault .notDue)) ∧
    (∀ (e : EntryId) (h : Held) (d : Time), s.entries[e] = .linger h d →
      (reached d s.timeBase = true →
        ∃ t, exec (.lingerExpiry e) s = .next t ∧ t.entries[e] = .free ∧ OtherEntries e s t ∧ SameBut [.entries] s t) ∧
      (reached d s.timeBase = false → exec (.lingerExpiry e) s = .fault .notDue)) ∧
    (∀ (pre post : List Delivery) (x : Delivery) (d : Time), s.deliveries = pre ++ x :: post → x.send = .sent d →
      (∀ y ∈ pre, y.line ≠ x.line) → reached d s.timeBase = true →
      ∃ t, exec (.resendDeadlineExpiry x.line) s = .next t ∧
        t.deliveries = pre ++ { x with send := .resendDue } :: post ∧ SameBut [.deliveries] s t) ∧
    (∀ n : LineId, (∀ x ∈ s.deliveries, x.line = n → ∀ d : Time, x.send = .sent d → reached d s.timeBase = false) →
      exec (.resendDeadlineExpiry n) s = .fault .notDue)

/-- A selection: a PENDING branch line goes before every internal line, then the highest priority, then the lowest number. -/
def Obligations.SelectionOrder : Prop :=
  ∀ (n : LineId) (s : State), s.trunk.state = .up → s.deliveries.length < 4 → s.lines[n].state = .pending →
    (∀ m : LineId, s.lines[m].state = .pending → m ≠ n →
      (n.val < 48 ∧ 48 ≤ m.val) ∨
      ((n.val < 48 ↔ m.val < 48) ∧
        (s.lines[m].priority.toNat < s.lines[n].priority.toNat ∨
          (s.lines[m].priority = s.lines[n].priority ∧ n.val < m.val)))) →
    ∃ t, exec .selection s = .next t ∧
      t.deliveries = s.deliveries ++ [{ line := n, vector := s.lines[n].vector, send := .firstDue, resends := 0 }] ∧
      t.lines[n] = { s.lines[n] with state := .delivered, again := false } ∧ OtherLines n s t ∧
      SameBut [.deliveries, .lines] s t

/-- What completions do. Operations that complete leave the Pending Control List together, and their COMPLETION records, with their
sequence, status and an empty result, are appended to the Control Reply Queue in the order of the list (R183). Windows that are RETIRING
with count 0 become EMPTY, DRAINING branches that hold no work become FENCED or LENT, and their operations complete DONE. DRAIN_COMPLETE
and RETIRE_COMPLETE do so for one branch and one window, and change nothing where there is nothing to complete (log entry 5). -/
def Obligations.Completions : Prop :=
  let stays (f : LongOp → Option ControlStatus) (s : State) : List PendingControl := s.pcl.filter fun r => decide (f r.op = none)
  let records (f : LongOp → Option ControlStatus) (s : State) : List ControlReply :=
    s.pcl.filterMap fun r => match f r.op with
      | some st => some { seq := r.seq, status := st, result := [], kind := .completion }
      | none => none
  let only (op : LongOp) (x : LongOp) : Option ControlStatus := if x = op then some .done else none
  let retires (w : WindowId) (s : State) : Prop := s.windows[w].state = .retiring ∧ s.windows[w].inFlight = 0
  let drains (b : BranchId) (s : State) : Prop := s.branches[b].state = .draining ∧ s.branches[b].queue = [] ∧
    ∀ (e : EntryId) (h : Held) (d : Time), s.entries[e] = .issued h d → h.branch ≠ b
  let drained (br : Branch) : Branch :=
    if br.drainLend = true then
      { br with state := .lent, drainLend := false, stallTimer := none, lendWanted := .granted, withdraw := false }
    else { br with state := .fenced, drainLend := false, stallTimer := none }
  (∀ (f : LongOp → Option ControlStatus) (s : State),
    (s.complete f).pcl = stays f s ∧ (s.complete f).ctlQ = s.ctlQ ++ records f s ∧ SameBut [.pcl, .ctlQ] s (s.complete f)) ∧
  (∀ (ws : WindowId → Bool) (bs : BranchId → Bool) (s : State),
    let t := s.settle ws bs
    (∀ w : WindowId, (ws w = true ∧ retires w s → t.windows[w] = Window.blank) ∧
      (¬(ws w = true ∧ retires w s) → t.windows[w] = s.windows[w])) ∧
    (∀ b : BranchId, (bs b = true ∧ drains b s → t.branches[b] = drained s.branches[b]) ∧
      (¬(bs b = true ∧ drains b s) → t.branches[b] = s.branches[b])) ∧
    (∀ f : LongOp → Option ControlStatus,
      (∀ w : WindowId, (ws w = true ∧ retires w s → f (.retire w) = some .done) ∧
        (¬(ws w = true ∧ retires w s) → f (.retire w) = none)) →
      (∀ b : BranchId, (bs b = true ∧ drains b s → f (.fence b) = some .done) ∧
        (¬(bs b = true ∧ drains b s) → f (.fence b) = none)) →
      (∀ b : BranchId, f (.reset b) = none) →
      t.pcl = stays f s ∧ t.ctlQ = s.ctlQ ++ records f s) ∧
    SameBut [.windows, .branches, .pcl, .ctlQ] s t) ∧
  (∀ (b : BranchId) (s : State),
    (drains b s →
      ∃ t, exec (.drainComplete b) s = .next t ∧ t.branches[b] = drained s.branches[b] ∧ OtherBranches b s t ∧
        t.pcl = stays (only (.fence b)) s ∧ t.ctlQ = s.ctlQ ++ records (only (.fence b)) s ∧
        SameBut [.branches, .pcl, .ctlQ] s t) ∧
    (¬drains b s → exec (.drainComplete b) s = .next s)) ∧
  (∀ (w : WindowId) (s : State),
    (retires w s →
      ∃ t, exec (.retireComplete w) s = .next t ∧ t.windows[w] = Window.blank ∧ OtherWindows w s t ∧
        t.pcl = stays (only (.retire w)) s ∧ t.ctlQ = s.ctlQ ++ records (only (.retire w)) s ∧
        SameBut [.windows, .pcl, .ctlQ] s t) ∧
    (¬retires w s → exec (.retireComplete w) s = .next s))

/-- The attention path: the raise of a line in every state of it, the increment of each of the six counters with the raise of I6 at the
one that takes it to 65535 (R192), and the taking of a fault record. A raise of an enabled HELD line, which R106 marks with a dash, is
taken as one of a disabled HELD line (the model's choice, log entry 22). -/
def Obligations.AttentionRules : Prop :=
  let up (n : Nat) : Nat := if n < 65535 then n + 1 else n
  let raised (ln : Line) : Line :=
    match ln.state with
    | .idle => { ln with state := if ln.enable = true then .pending else .held }
    | .held => ln
    | .pending => ln
    | .delivered => { ln with again := true }
  let signalled (n : Nat) (s : State) : State := if n = 65534 then s.raise (internalLine 6) else s
  (∀ (n : LineId) (s : State),
    let t := s.raise n
    let lines := s.lines.set n (raised s.lines[n])
    SameBut [.lines, .counters] s t ∧
    (s.lines[n].state = .idle → t.lines = lines ∧ t.counters = s.counters) ∧
    (s.lines[n].state ≠ .idle →
      t.counters = { s.counters with coalesced := up s.counters.coalesced } ∧
      t.lines = if s.counters.coalesced = 65534 then lines.set (internalLine 6) (raised lines[internalLine 6]) else lines)) ∧
  (∀ (k : Fin 8) (s : State), s.raiseInternal k = s.raise (internalLine k) ∧ (internalLine k).val = 48 + k.val) ∧
  (∀ s : State,
    s.countLate = signalled s.counters.lateReplies
      { s with counters := { s.counters with lateReplies := up s.counters.lateReplies } } ∧
    s.countStrayAck = signalled s.counters.strayAcks
      { s with counters := { s.counters with strayAcks := up s.counters.strayAcks } } ∧
    s.countResend = signalled s.counters.resends { s with counters := { s.counters with resends := up s.counters.resends } }) ∧
  (∀ (c : Instr) (s : State), c ∈ trunkResetCauses → s.trunk.state = .up →
    let after : State := { s with
      lines := Vector.ofFn fun n =>
        if s.lines[n].state = .delivered then { s.lines[n] with state := .pending, again := false } else s.lines[n]
      counters := { s.counters with trunkResets := up s.counters.trunkResets } }
    ∃ t, exec c s = .next t ∧ AttentionOf (signalled s.counters.trunkResets after) t) ∧
  (∀ (f : FaultRecord) (s : State),
    (s.faults.length < 8 → s.recordFault f = { s with faults := s.faults ++ [f] }.raise (internalLine 0)) ∧
    (8 ≤ s.faults.length →
      s.recordFault f = (signalled s.counters.faultOverflows
        { s with counters := { s.counters with faultOverflows := up s.counters.faultOverflows } }).raise (internalLine 5)))

/-! ## The whole part -/

/-- Who may change what: the Time Base no command, the Timing Set SET-TIMING alone, a line's configuration LOAD-LINE alone, a window's
configuration LOAD-WINDOW alone unless the record becomes EMPTY, the Fault Queue's records TAKE-FAULTS alone; power-on reset apart. The
queue of commands is changed by no command. -/
def Obligations.WhatCommandsKeep : Prop :=
  ∀ (c : Instr) (s t : State), exec c s = .next t →
    t.pending = s.pending ∧
    (c ≠ .powerOnReset →
      t.timeBase = s.timeBase ∧
      (c ≠ .setTiming → t.timing = s.timing) ∧
      (c ≠ .leavePowerOnReset → t.porst = s.porst) ∧
      (c ≠ .loadLine → ∀ n : LineId, config t.lines[n] = config s.lines[n]) ∧
      (c ≠ .loadWindow → ∀ w : WindowId, t.windows[w] = Window.blank ∨
        (t.windows[w].base = s.windows[w].base ∧ t.windows[w].size = s.windows[w].size ∧
          t.windows[w].branch = s.windows[w].branch ∧ t.windows[w].target = s.windows[w].target ∧
          t.windows[w].rights = s.windows[w].rights ∧ t.windows[w].cls = s.windows[w].cls)) ∧
      (c ≠ .takeFaults → s.faults <+: t.faults))

/-- Encode and decode agree: a GC-6 beneath a branch, and a controller, read from the words of a frame the fields it was built from. The
codes of ops, Reply statuses and control statuses are those of the tables of 9.7. -/
def Obligations.FramesCarryTheirFields : Prop :=
  [Op.read, .write, .postedWrite, .swap].map Op.code = [0, 1, 2, 3] ∧
  [ReplyStatus.ok, .noRoute, .boundary, .denied, .hopLimit, .fenced, .branchDown, .timeout, .targetError, .aborted, .malformed].map
    ReplyStatus.code = [0, 1, 2, 3, 4, 5, 6, 7, 8, 9, 10] ∧
  [ControlStatus.done, .busy, .already, .inUse, .overlap, .wrongState, .notFenced, .badOperand, .badCommand, .aborted, .noPartner,
    .branchLost].map ControlStatus.code = [0, 1, 2, 3, 4, 5, 6, 7, 8, 9, 10, 11] ∧
  (∀ (op : Op) (tag : BitVec 6) (address : Word) (length : BitVec 5) (hop : BitVec 3) (data : List Word),
    let f : Frame := BranchFrame.words (.request op tag address length hop data)
    f.kind = 1 ∧ IntakeFrame.ofFrame f = .request ⟨op.code, tag, length, hop, address, data⟩ ∧ Op.ofCode op.code = some op ∧
    (data.length ≤ 30 → f.sizeOk = true)) ∧
  (∀ l : Fin 8,
    let f : Frame := BranchFrame.words (.release l)
    f.kind = 4 ∧ f.lineOrVector.toNat = l.val ∧ f.sizeOk = true) ∧
  (∀ (tag : BitVec 6) (st : ReplyStatus) (data : List Word),
    let f : Frame := TrunkFrame.words (.reply tag st data)
    f.kind = 2 ∧ f.replyTag = tag ∧ f.replyStatus.toNat = st.code ∧ ReplyStatus.ofCode f.replyStatus = st ∧
    f.replyData = data ∧ (data.length ≤ 31 → f.sizeOk = true)) ∧
  (∀ v : BitVec 8,
    let f : Frame := TrunkFrame.words (.notice v)
    f.kind = 3 ∧ f.lineOrVector = v ∧ f.sizeOk = true) ∧
  (∀ n : Nat, 1 ≤ n → n ≤ 16 →
    let f : Frame := TrunkFrame.words (.credit n)
    f.kind = 5 ∧ f.creditCount = n ∧ f.sizeOk = true) ∧
  (∀ (seq : BitVec 8) (st : ControlStatus) (result : List Word),
    let f : Frame := TrunkFrame.words (.controlReply seq st result)
    f.kind = 6 ∧ f.sequence = seq ∧ (f.header.extractLsb' 16 4).toNat = st.code ∧ f.header.extractLsb' 0 16 = 0 ∧
    f.body = result) ∧
  BranchFrame.words .grant = [0xA0000000] ∧ BranchFrame.words .reclaim = [0xB0000000]

/-! ## Invariants kept by every step -/

/-- Every step keeps the ports and the links in order. -/
def Obligations.InvariantPortsAndLinks : Prop :=
  ∀ s t : State, PortsOk s → LinksOk s → step s = .next t → PortsOk t ∧ LinksOk t

/-- Every step keeps the Delivery List and the Line Table in agreement. -/
def Obligations.InvariantNotices : Prop := ∀ s t : State, NoticesOk s → step s = .next t → NoticesOk t

/-- Every step keeps the upstream tags apart and one Reply for each ANSWERED entry. -/
def Obligations.InvariantTagsAndReplies : Prop :=
  ∀ s t : State, step s = .next t → (TagsOk s → TagsOk t) ∧ (RepliesOk s → RepliesOk t)

/-- Every step keeps the window records in range and disjoint, the Fault Queue within 8 records and the counters within 65535. -/
def Obligations.InvariantWindowsAndCounts : Prop :=
  ∀ s t : State, step s = .next t → (WindowsOk s → WindowsOk t) ∧ (CountsOk s → CountsOk t)

/-- Every step keeps the credits within 16 and the Pending Control List within 4; out of service the trunk holds nothing. -/
def Obligations.InvariantTrunk : Prop := ∀ s t : State, TrunkOk s → step s = .next t → TrunkOk t

/-- Every step keeps the Pending Control List in agreement with the windows and branches. -/
def Obligations.InvariantPendingControl : Prop :=
  ∀ s t : State, PortsOk s → PendingOk s → step s = .next t → PendingOk t

/-- Every step keeps the account of the work in flight. -/
def Obligations.InvariantWork : Prop := ∀ s t : State, WorkOk s → step s = .next t → WorkOk t

/-- The bounds of the two reply queues follow from the invariants: 64 Replies and 20 control replies. -/
def Obligations.ReplyQueueBounds : Prop :=
  ∀ s : State, (TrunkOk s → s.ctlQ.length ≤ 20) ∧ (TrunkOk s → RepliesOk s → s.replyQ.length ≤ 64)
end

