-- ==== Sys2Proof/Laws/State.lean ====
section
/-! SUPPORT. The fields of the state after each shared update: what it writes, and that it leaves the rest. -/

namespace Sys2Proof.Machine

/-! ### State.setEntry -/

@[simp] theorem State.setEntry_porst (s : State) (e : EntryId) (x : Entry) : (s.setEntry e x).porst = s.porst := rfl

@[simp] theorem State.setEntry_timeBase (s : State) (e : EntryId) (x : Entry) : (s.setEntry e x).timeBase = s.timeBase := rfl

@[simp] theorem State.setEntry_timing (s : State) (e : EntryId) (x : Entry) : (s.setEntry e x).timing = s.timing := rfl

@[simp] theorem State.setEntry_windows (s : State) (e : EntryId) (x : Entry) : (s.setEntry e x).windows = s.windows := rfl

@[simp] theorem State.setEntry_entries (s : State) (e : EntryId) (x : Entry) :
    (s.setEntry e x).entries = s.entries.set e x := rfl

@[simp] theorem State.setEntry_branches (s : State) (e : EntryId) (x : Entry) : (s.setEntry e x).branches = s.branches := rfl

@[simp] theorem State.setEntry_lines (s : State) (e : EntryId) (x : Entry) : (s.setEntry e x).lines = s.lines := rfl

@[simp] theorem State.setEntry_deliveries (s : State) (e : EntryId) (x : Entry) : (s.setEntry e x).deliveries = s.deliveries := rfl

@[simp] theorem State.setEntry_intake (s : State) (e : EntryId) (x : Entry) : (s.setEntry e x).intake = s.intake := rfl

@[simp] theorem State.setEntry_acc (s : State) (e : EntryId) (x : Entry) : (s.setEntry e x).acc = s.acc := rfl

@[simp] theorem State.setEntry_replyQ (s : State) (e : EntryId) (x : Entry) : (s.setEntry e x).replyQ = s.replyQ := rfl

@[simp] theorem State.setEntry_ctlQ (s : State) (e : EntryId) (x : Entry) : (s.setEntry e x).ctlQ = s.ctlQ := rfl

@[simp] theorem State.setEntry_trunk (s : State) (e : EntryId) (x : Entry) : (s.setEntry e x).trunk = s.trunk := rfl

@[simp] theorem State.setEntry_pcl (s : State) (e : EntryId) (x : Entry) : (s.setEntry e x).pcl = s.pcl := rfl

@[simp] theorem State.setEntry_faults (s : State) (e : EntryId) (x : Entry) : (s.setEntry e x).faults = s.faults := rfl

@[simp] theorem State.setEntry_counters (s : State) (e : EntryId) (x : Entry) : (s.setEntry e x).counters = s.counters := rfl

@[simp] theorem State.setEntry_pending (s : State) (e : EntryId) (x : Entry) : (s.setEntry e x).pending = s.pending := rfl

/-! ### State.setWindow -/

@[simp] theorem State.setWindow_porst (s : State) (w : WindowId) (x : Window) : (s.setWindow w x).porst = s.porst := rfl

@[simp] theorem State.setWindow_timeBase (s : State) (w : WindowId) (x : Window) : (s.setWindow w x).timeBase = s.timeBase := rfl

@[simp] theorem State.setWindow_timing (s : State) (w : WindowId) (x : Window) : (s.setWindow w x).timing = s.timing := rfl

@[simp] theorem State.setWindow_windows (s : State) (w : WindowId) (x : Window) :
    (s.setWindow w x).windows = s.windows.set w x := rfl

@[simp] theorem State.setWindow_entries (s : State) (w : WindowId) (x : Window) : (s.setWindow w x).entries = s.entries := rfl

@[simp] theorem State.setWindow_branches (s : State) (w : WindowId) (x : Window) : (s.setWindow w x).branches = s.branches := rfl

@[simp] theorem State.setWindow_lines (s : State) (w : WindowId) (x : Window) : (s.setWindow w x).lines = s.lines := rfl

@[simp] theorem State.setWindow_deliveries (s : State) (w : WindowId) (x : Window) : (s.setWindow w x).deliveries = s.deliveries := rfl

@[simp] theorem State.setWindow_intake (s : State) (w : WindowId) (x : Window) : (s.setWindow w x).intake = s.intake := rfl

@[simp] theorem State.setWindow_acc (s : State) (w : WindowId) (x : Window) : (s.setWindow w x).acc = s.acc := rfl

@[simp] theorem State.setWindow_replyQ (s : State) (w : WindowId) (x : Window) : (s.setWindow w x).replyQ = s.replyQ := rfl

@[simp] theorem State.setWindow_ctlQ (s : State) (w : WindowId) (x : Window) : (s.setWindow w x).ctlQ = s.ctlQ := rfl

@[simp] theorem State.setWindow_trunk (s : State) (w : WindowId) (x : Window) : (s.setWindow w x).trunk = s.trunk := rfl

@[simp] theorem State.setWindow_pcl (s : State) (w : WindowId) (x : Window) : (s.setWindow w x).pcl = s.pcl := rfl

@[simp] theorem State.setWindow_faults (s : State) (w : WindowId) (x : Window) : (s.setWindow w x).faults = s.faults := rfl

@[simp] theorem State.setWindow_counters (s : State) (w : WindowId) (x : Window) : (s.setWindow w x).counters = s.counters := rfl

@[simp] theorem State.setWindow_pending (s : State) (w : WindowId) (x : Window) : (s.setWindow w x).pending = s.pending := rfl

/-! ### State.setBranch -/

@[simp] theorem State.setBranch_porst (s : State) (b : BranchId) (br : Branch) : (s.setBranch b br).porst = s.porst := rfl

@[simp] theorem State.setBranch_timeBase (s : State) (b : BranchId) (br : Branch) : (s.setBranch b br).timeBase = s.timeBase := rfl

@[simp] theorem State.setBranch_timing (s : State) (b : BranchId) (br : Branch) : (s.setBranch b br).timing = s.timing := rfl

@[simp] theorem State.setBranch_windows (s : State) (b : BranchId) (br : Branch) : (s.setBranch b br).windows = s.windows := rfl

@[simp] theorem State.setBranch_entries (s : State) (b : BranchId) (br : Branch) : (s.setBranch b br).entries = s.entries := rfl

@[simp] theorem State.setBranch_branches (s : State) (b : BranchId) (br : Branch) :
    (s.setBranch b br).branches = s.branches.set b (br.restall s.timeBase s.timing.stall) := rfl

@[simp] theorem State.setBranch_lines (s : State) (b : BranchId) (br : Branch) : (s.setBranch b br).lines = s.lines := rfl

@[simp] theorem State.setBranch_deliveries (s : State) (b : BranchId) (br : Branch) : (s.setBranch b br).deliveries = s.deliveries := rfl

@[simp] theorem State.setBranch_intake (s : State) (b : BranchId) (br : Branch) : (s.setBranch b br).intake = s.intake := rfl

@[simp] theorem State.setBranch_acc (s : State) (b : BranchId) (br : Branch) : (s.setBranch b br).acc = s.acc := rfl

@[simp] theorem State.setBranch_replyQ (s : State) (b : BranchId) (br : Branch) : (s.setBranch b br).replyQ = s.replyQ := rfl

@[simp] theorem State.setBranch_ctlQ (s : State) (b : BranchId) (br : Branch) : (s.setBranch b br).ctlQ = s.ctlQ := rfl

@[simp] theorem State.setBranch_trunk (s : State) (b : BranchId) (br : Branch) : (s.setBranch b br).trunk = s.trunk := rfl

@[simp] theorem State.setBranch_pcl (s : State) (b : BranchId) (br : Branch) : (s.setBranch b br).pcl = s.pcl := rfl

@[simp] theorem State.setBranch_faults (s : State) (b : BranchId) (br : Branch) : (s.setBranch b br).faults = s.faults := rfl

@[simp] theorem State.setBranch_counters (s : State) (b : BranchId) (br : Branch) : (s.setBranch b br).counters = s.counters := rfl

@[simp] theorem State.setBranch_pending (s : State) (b : BranchId) (br : Branch) : (s.setBranch b br).pending = s.pending := rfl

/-! ### State.setLine -/

@[simp] theorem State.setLine_porst (s : State) (n : LineId) (ln : Line) : (s.setLine n ln).porst = s.porst := rfl

@[simp] theorem State.setLine_timeBase (s : State) (n : LineId) (ln : Line) : (s.setLine n ln).timeBase = s.timeBase := rfl

@[simp] theorem State.setLine_timing (s : State) (n : LineId) (ln : Line) : (s.setLine n ln).timing = s.timing := rfl

@[simp] theorem State.setLine_windows (s : State) (n : LineId) (ln : Line) : (s.setLine n ln).windows = s.windows := rfl

@[simp] theorem State.setLine_entries (s : State) (n : LineId) (ln : Line) : (s.setLine n ln).entries = s.entries := rfl

@[simp] theorem State.setLine_branches (s : State) (n : LineId) (ln : Line) : (s.setLine n ln).branches = s.branches := rfl

@[simp] theorem State.setLine_lines (s : State) (n : LineId) (ln : Line) :
    (s.setLine n ln).lines = s.lines.set n ln := rfl

@[simp] theorem State.setLine_deliveries (s : State) (n : LineId) (ln : Line) : (s.setLine n ln).deliveries = s.deliveries := rfl

@[simp] theorem State.setLine_intake (s : State) (n : LineId) (ln : Line) : (s.setLine n ln).intake = s.intake := rfl

@[simp] theorem State.setLine_acc (s : State) (n : LineId) (ln : Line) : (s.setLine n ln).acc = s.acc := rfl

@[simp] theorem State.setLine_replyQ (s : State) (n : LineId) (ln : Line) : (s.setLine n ln).replyQ = s.replyQ := rfl

@[simp] theorem State.setLine_ctlQ (s : State) (n : LineId) (ln : Line) : (s.setLine n ln).ctlQ = s.ctlQ := rfl

@[simp] theorem State.setLine_trunk (s : State) (n : LineId) (ln : Line) : (s.setLine n ln).trunk = s.trunk := rfl

@[simp] theorem State.setLine_pcl (s : State) (n : LineId) (ln : Line) : (s.setLine n ln).pcl = s.pcl := rfl

@[simp] theorem State.setLine_faults (s : State) (n : LineId) (ln : Line) : (s.setLine n ln).faults = s.faults := rfl

@[simp] theorem State.setLine_counters (s : State) (n : LineId) (ln : Line) : (s.setLine n ln).counters = s.counters := rfl

@[simp] theorem State.setLine_pending (s : State) (n : LineId) (ln : Line) : (s.setLine n ln).pending = s.pending := rfl

/-! ### State.returnCredit -/

@[simp] theorem State.returnCredit_porst (s : State) : s.returnCredit.porst = s.porst := rfl

@[simp] theorem State.returnCredit_timeBase (s : State) : s.returnCredit.timeBase = s.timeBase := rfl

@[simp] theorem State.returnCredit_timing (s : State) : s.returnCredit.timing = s.timing := rfl

@[simp] theorem State.returnCredit_windows (s : State) : s.returnCredit.windows = s.windows := rfl

@[simp] theorem State.returnCredit_entries (s : State) : s.returnCredit.entries = s.entries := rfl

@[simp] theorem State.returnCredit_branches (s : State) : s.returnCredit.branches = s.branches := rfl

@[simp] theorem State.returnCredit_lines (s : State) : s.returnCredit.lines = s.lines := rfl

@[simp] theorem State.returnCredit_deliveries (s : State) : s.returnCredit.deliveries = s.deliveries := rfl

@[simp] theorem State.returnCredit_intake (s : State) : s.returnCredit.intake = s.intake := rfl

@[simp] theorem State.returnCredit_acc (s : State) :
    s.returnCredit.acc = s.acc + 1 := rfl

@[simp] theorem State.returnCredit_replyQ (s : State) : s.returnCredit.replyQ = s.replyQ := rfl

@[simp] theorem State.returnCredit_ctlQ (s : State) : s.returnCredit.ctlQ = s.ctlQ := rfl

@[simp] theorem State.returnCredit_trunk (s : State) : s.returnCredit.trunk = s.trunk := rfl

@[simp] theorem State.returnCredit_pcl (s : State) : s.returnCredit.pcl = s.pcl := rfl

@[simp] theorem State.returnCredit_faults (s : State) : s.returnCredit.faults = s.faults := rfl

@[simp] theorem State.returnCredit_counters (s : State) : s.returnCredit.counters = s.counters := rfl

@[simp] theorem State.returnCredit_pending (s : State) : s.returnCredit.pending = s.pending := rfl

/-! ### State.placeReply -/

@[simp] theorem State.placeReply_porst (s : State) (r : Reply) : (s.placeReply r).porst = s.porst := rfl

@[simp] theorem State.placeReply_timeBase (s : State) (r : Reply) : (s.placeReply r).timeBase = s.timeBase := rfl

@[simp] theorem State.placeReply_timing (s : State) (r : Reply) : (s.placeReply r).timing = s.timing := rfl

@[simp] theorem State.placeReply_windows (s : State) (r : Reply) : (s.placeReply r).windows = s.windows := rfl

@[simp] theorem State.placeReply_entries (s : State) (r : Reply) : (s.placeReply r).entries = s.entries := rfl

@[simp] theorem State.placeReply_branches (s : State) (r : Reply) : (s.placeReply r).branches = s.branches := rfl

@[simp] theorem State.placeReply_lines (s : State) (r : Reply) : (s.placeReply r).lines = s.lines := rfl

@[simp] theorem State.placeReply_deliveries (s : State) (r : Reply) : (s.placeReply r).deliveries = s.deliveries := rfl

@[simp] theorem State.placeReply_intake (s : State) (r : Reply) : (s.placeReply r).intake = s.intake := rfl

@[simp] theorem State.placeReply_acc (s : State) (r : Reply) : (s.placeReply r).acc = s.acc := rfl

@[simp] theorem State.placeReply_replyQ (s : State) (r : Reply) :
    (s.placeReply r).replyQ = s.replyQ ++ [r] := rfl

@[simp] theorem State.placeReply_ctlQ (s : State) (r : Reply) : (s.placeReply r).ctlQ = s.ctlQ := rfl

@[simp] theorem State.placeReply_trunk (s : State) (r : Reply) : (s.placeReply r).trunk = s.trunk := rfl

@[simp] theorem State.placeReply_pcl (s : State) (r : Reply) : (s.placeReply r).pcl = s.pcl := rfl

@[simp] theorem State.placeReply_faults (s : State) (r : Reply) : (s.placeReply r).faults = s.faults := rfl

@[simp] theorem State.placeReply_counters (s : State) (r : Reply) : (s.placeReply r).counters = s.counters := rfl

@[simp] theorem State.placeReply_pending (s : State) (r : Reply) : (s.placeReply r).pending = s.pending := rfl

/-! ### State.answerNow -/

@[simp] theorem State.answerNow_porst (s : State) (c : Control) (st : ControlStatus) (ws : List Word) : (s.answerNow c st ws).porst = s.porst := rfl

@[simp] theorem State.answerNow_timeBase (s : State) (c : Control) (st : ControlStatus) (ws : List Word) : (s.answerNow c st ws).timeBase = s.timeBase := rfl

@[simp] theorem State.answerNow_timing (s : State) (c : Control) (st : ControlStatus) (ws : List Word) : (s.answerNow c st ws).timing = s.timing := rfl

@[simp] theorem State.answerNow_windows (s : State) (c : Control) (st : ControlStatus) (ws : List Word) : (s.answerNow c st ws).windows = s.windows := rfl

@[simp] theorem State.answerNow_entries (s : State) (c : Control) (st : ControlStatus) (ws : List Word) : (s.answerNow c st ws).entries = s.entries := rfl

@[simp] theorem State.answerNow_branches (s : State) (c : Control) (st : ControlStatus) (ws : List Word) : (s.answerNow c st ws).branches = s.branches := rfl

@[simp] theorem State.answerNow_lines (s : State) (c : Control) (st : ControlStatus) (ws : List Word) : (s.answerNow c st ws).lines = s.lines := rfl

@[simp] theorem State.answerNow_deliveries (s : State) (c : Control) (st : ControlStatus) (ws : List Word) : (s.answerNow c st ws).deliveries = s.deliveries := rfl

@[simp] theorem State.answerNow_intake (s : State) (c : Control) (st : ControlStatus) (ws : List Word) : (s.answerNow c st ws).intake = s.intake := rfl

@[simp] theorem State.answerNow_acc (s : State) (c : Control) (st : ControlStatus) (ws : List Word) : (s.answerNow c st ws).acc = s.acc := rfl

@[simp] theorem State.answerNow_replyQ (s : State) (c : Control) (st : ControlStatus) (ws : List Word) : (s.answerNow c st ws).replyQ = s.replyQ := rfl

@[simp] theorem State.answerNow_ctlQ (s : State) (c : Control) (st : ControlStatus) (ws : List Word) :
    (s.answerNow c st ws).ctlQ = s.ctlQ ++ [⟨c.seq, st, ws, .immediate⟩] := rfl

@[simp] theorem State.answerNow_trunk (s : State) (c : Control) (st : ControlStatus) (ws : List Word) : (s.answerNow c st ws).trunk = s.trunk := rfl

@[simp] theorem State.answerNow_pcl (s : State) (c : Control) (st : ControlStatus) (ws : List Word) : (s.answerNow c st ws).pcl = s.pcl := rfl

@[simp] theorem State.answerNow_faults (s : State) (c : Control) (st : ControlStatus) (ws : List Word) : (s.answerNow c st ws).faults = s.faults := rfl

@[simp] theorem State.answerNow_counters (s : State) (c : Control) (st : ControlStatus) (ws : List Word) : (s.answerNow c st ws).counters = s.counters := rfl

@[simp] theorem State.answerNow_pending (s : State) (c : Control) (st : ControlStatus) (ws : List Word) : (s.answerNow c st ws).pending = s.pending := rfl

/-! ### State.accept -/

@[simp] theorem State.accept_porst (s : State) (c : Control) (op : LongOp) : (s.accept c op).porst = s.porst := rfl

@[simp] theorem State.accept_timeBase (s : State) (c : Control) (op : LongOp) : (s.accept c op).timeBase = s.timeBase := rfl

@[simp] theorem State.accept_timing (s : State) (c : Control) (op : LongOp) : (s.accept c op).timing = s.timing := rfl

@[simp] theorem State.accept_windows (s : State) (c : Control) (op : LongOp) : (s.accept c op).windows = s.windows := rfl

@[simp] theorem State.accept_entries (s : State) (c : Control) (op : LongOp) : (s.accept c op).entries = s.entries := rfl

@[simp] theorem State.accept_branches (s : State) (c : Control) (op : LongOp) : (s.accept c op).branches = s.branches := rfl

@[simp] theorem State.accept_lines (s : State) (c : Control) (op : LongOp) : (s.accept c op).lines = s.lines := rfl

@[simp] theorem State.accept_deliveries (s : State) (c : Control) (op : LongOp) : (s.accept c op).deliveries = s.deliveries := rfl

@[simp] theorem State.accept_intake (s : State) (c : Control) (op : LongOp) : (s.accept c op).intake = s.intake := rfl

@[simp] theorem State.accept_acc (s : State) (c : Control) (op : LongOp) :
    (s.accept c op).acc = s.acc + 1 := rfl

@[simp] theorem State.accept_replyQ (s : State) (c : Control) (op : LongOp) : (s.accept c op).replyQ = s.replyQ := rfl

@[simp] theorem State.accept_ctlQ (s : State) (c : Control) (op : LongOp) : (s.accept c op).ctlQ = s.ctlQ := rfl

@[simp] theorem State.accept_trunk (s : State) (c : Control) (op : LongOp) : (s.accept c op).trunk = s.trunk := rfl

@[simp] theorem State.accept_pcl (s : State) (c : Control) (op : LongOp) :
    (s.accept c op).pcl = s.pcl ++ [⟨c.seq, op, s.timeBase⟩] := rfl

@[simp] theorem State.accept_faults (s : State) (c : Control) (op : LongOp) : (s.accept c op).faults = s.faults := rfl

@[simp] theorem State.accept_counters (s : State) (c : Control) (op : LongOp) : (s.accept c op).counters = s.counters := rfl

@[simp] theorem State.accept_pending (s : State) (c : Control) (op : LongOp) : (s.accept c op).pending = s.pending := rfl

/-! ### State.complete -/

@[simp] theorem State.complete_porst (s : State) (f : LongOp → Option ControlStatus) : (s.complete f).porst = s.porst := rfl

@[simp] theorem State.complete_timeBase (s : State) (f : LongOp → Option ControlStatus) : (s.complete f).timeBase = s.timeBase := rfl

@[simp] theorem State.complete_timing (s : State) (f : LongOp → Option ControlStatus) : (s.complete f).timing = s.timing := rfl

@[simp] theorem State.complete_windows (s : State) (f : LongOp → Option ControlStatus) : (s.complete f).windows = s.windows := rfl

@[simp] theorem State.complete_entries (s : State) (f : LongOp → Option ControlStatus) : (s.complete f).entries = s.entries := rfl

@[simp] theorem State.complete_branches (s : State) (f : LongOp → Option ControlStatus) : (s.complete f).branches = s.branches := rfl

@[simp] theorem State.complete_lines (s : State) (f : LongOp → Option ControlStatus) : (s.complete f).lines = s.lines := rfl

@[simp] theorem State.complete_deliveries (s : State) (f : LongOp → Option ControlStatus) : (s.complete f).deliveries = s.deliveries := rfl

@[simp] theorem State.complete_intake (s : State) (f : LongOp → Option ControlStatus) : (s.complete f).intake = s.intake := rfl

@[simp] theorem State.complete_acc (s : State) (f : LongOp → Option ControlStatus) : (s.complete f).acc = s.acc := rfl

@[simp] theorem State.complete_replyQ (s : State) (f : LongOp → Option ControlStatus) : (s.complete f).replyQ = s.replyQ := rfl

@[simp] theorem State.complete_trunk (s : State) (f : LongOp → Option ControlStatus) : (s.complete f).trunk = s.trunk := rfl

@[simp] theorem State.complete_faults (s : State) (f : LongOp → Option ControlStatus) : (s.complete f).faults = s.faults := rfl

@[simp] theorem State.complete_counters (s : State) (f : LongOp → Option ControlStatus) : (s.complete f).counters = s.counters := rfl

@[simp] theorem State.complete_pending (s : State) (f : LongOp → Option ControlStatus) : (s.complete f).pending = s.pending := rfl

/-! ### State.uncount -/

@[simp] theorem State.uncount_porst (s : State) (k : WindowId → Nat) : (s.uncount k).porst = s.porst := by
  simp [State.uncount]

@[simp] theorem State.uncount_timeBase (s : State) (k : WindowId → Nat) : (s.uncount k).timeBase = s.timeBase := by
  simp [State.uncount]

@[simp] theorem State.uncount_timing (s : State) (k : WindowId → Nat) : (s.uncount k).timing = s.timing := by
  simp [State.uncount]

@[simp] theorem State.uncount_entries (s : State) (k : WindowId → Nat) : (s.uncount k).entries = s.entries := by
  simp [State.uncount]

@[simp] theorem State.uncount_branches (s : State) (k : WindowId → Nat) : (s.uncount k).branches = s.branches := by
  simp [State.uncount]

@[simp] theorem State.uncount_lines (s : State) (k : WindowId → Nat) : (s.uncount k).lines = s.lines := by
  simp [State.uncount]

@[simp] theorem State.uncount_deliveries (s : State) (k : WindowId → Nat) : (s.uncount k).deliveries = s.deliveries := by
  simp [State.uncount]

@[simp] theorem State.uncount_intake (s : State) (k : WindowId → Nat) : (s.uncount k).intake = s.intake := by
  simp [State.uncount]

@[simp] theorem State.uncount_acc (s : State) (k : WindowId → Nat) : (s.uncount k).acc = s.acc := by
  simp [State.uncount]

@[simp] theorem State.uncount_replyQ (s : State) (k : WindowId → Nat) : (s.uncount k).replyQ = s.replyQ := by
  simp [State.uncount]

@[simp] theorem State.uncount_ctlQ (s : State) (k : WindowId → Nat) : (s.uncount k).ctlQ = s.ctlQ := by
  simp [State.uncount]

@[simp] theorem State.uncount_trunk (s : State) (k : WindowId → Nat) : (s.uncount k).trunk = s.trunk := by
  simp [State.uncount]

@[simp] theorem State.uncount_pcl (s : State) (k : WindowId → Nat) : (s.uncount k).pcl = s.pcl := by
  simp [State.uncount]

@[simp] theorem State.uncount_faults (s : State) (k : WindowId → Nat) : (s.uncount k).faults = s.faults := by
  simp [State.uncount]

@[simp] theorem State.uncount_counters (s : State) (k : WindowId → Nat) : (s.uncount k).counters = s.counters := by
  simp [State.uncount]

@[simp] theorem State.uncount_pending (s : State) (k : WindowId → Nat) : (s.uncount k).pending = s.pending := by
  simp [State.uncount]

/-! ### State.uncountOne -/

@[simp] theorem State.uncountOne_porst (s : State) (w : WindowId) : (s.uncountOne w).porst = s.porst := by
  simp [State.uncountOne]

@[simp] theorem State.uncountOne_timeBase (s : State) (w : WindowId) : (s.uncountOne w).timeBase = s.timeBase := by
  simp [State.uncountOne]

@[simp] theorem State.uncountOne_timing (s : State) (w : WindowId) : (s.uncountOne w).timing = s.timing := by
  simp [State.uncountOne]

@[simp] theorem State.uncountOne_entries (s : State) (w : WindowId) : (s.uncountOne w).entries = s.entries := by
  simp [State.uncountOne]

@[simp] theorem State.uncountOne_branches (s : State) (w : WindowId) : (s.uncountOne w).branches = s.branches := by
  simp [State.uncountOne]

@[simp] theorem State.uncountOne_lines (s : State) (w : WindowId) : (s.uncountOne w).lines = s.lines := by
  simp [State.uncountOne]

@[simp] theorem State.uncountOne_deliveries (s : State) (w : WindowId) : (s.uncountOne w).deliveries = s.deliveries := by
  simp [State.uncountOne]

@[simp] theorem State.uncountOne_intake (s : State) (w : WindowId) : (s.uncountOne w).intake = s.intake := by
  simp [State.uncountOne]

@[simp] theorem State.uncountOne_acc (s : State) (w : WindowId) : (s.uncountOne w).acc = s.acc := by
  simp [State.uncountOne]

@[simp] theorem State.uncountOne_replyQ (s : State) (w : WindowId) : (s.uncountOne w).replyQ = s.replyQ := by
  simp [State.uncountOne]

@[simp] theorem State.uncountOne_ctlQ (s : State) (w : WindowId) : (s.uncountOne w).ctlQ = s.ctlQ := by
  simp [State.uncountOne]

@[simp] theorem State.uncountOne_trunk (s : State) (w : WindowId) : (s.uncountOne w).trunk = s.trunk := by
  simp [State.uncountOne]

@[simp] theorem State.uncountOne_pcl (s : State) (w : WindowId) : (s.uncountOne w).pcl = s.pcl := by
  simp [State.uncountOne]

@[simp] theorem State.uncountOne_faults (s : State) (w : WindowId) : (s.uncountOne w).faults = s.faults := by
  simp [State.uncountOne]

@[simp] theorem State.uncountOne_counters (s : State) (w : WindowId) : (s.uncountOne w).counters = s.counters := by
  simp [State.uncountOne]

@[simp] theorem State.uncountOne_pending (s : State) (w : WindowId) : (s.uncountOne w).pending = s.pending := by
  simp [State.uncountOne]

/-! ### State.countIn -/

@[simp] theorem State.countIn_porst (s : State) (w : WindowId) : (s.countIn w).porst = s.porst := rfl

@[simp] theorem State.countIn_timeBase (s : State) (w : WindowId) : (s.countIn w).timeBase = s.timeBase := rfl

@[simp] theorem State.countIn_timing (s : State) (w : WindowId) : (s.countIn w).timing = s.timing := rfl

@[simp] theorem State.countIn_entries (s : State) (w : WindowId) : (s.countIn w).entries = s.entries := rfl

@[simp] theorem State.countIn_branches (s : State) (w : WindowId) : (s.countIn w).branches = s.branches := rfl

@[simp] theorem State.countIn_lines (s : State) (w : WindowId) : (s.countIn w).lines = s.lines := rfl

@[simp] theorem State.countIn_deliveries (s : State) (w : WindowId) : (s.countIn w).deliveries = s.deliveries := rfl

@[simp] theorem State.countIn_intake (s : State) (w : WindowId) : (s.countIn w).intake = s.intake := rfl

@[simp] theorem State.countIn_acc (s : State) (w : WindowId) : (s.countIn w).acc = s.acc := rfl

@[simp] theorem State.countIn_replyQ (s : State) (w : WindowId) : (s.countIn w).replyQ = s.replyQ := rfl

@[simp] theorem State.countIn_ctlQ (s : State) (w : WindowId) : (s.countIn w).ctlQ = s.ctlQ := rfl

@[simp] theorem State.countIn_trunk (s : State) (w : WindowId) : (s.countIn w).trunk = s.trunk := rfl

@[simp] theorem State.countIn_pcl (s : State) (w : WindowId) : (s.countIn w).pcl = s.pcl := rfl

@[simp] theorem State.countIn_faults (s : State) (w : WindowId) : (s.countIn w).faults = s.faults := rfl

@[simp] theorem State.countIn_counters (s : State) (w : WindowId) : (s.countIn w).counters = s.counters := rfl

@[simp] theorem State.countIn_pending (s : State) (w : WindowId) : (s.countIn w).pending = s.pending := rfl

/-! ### State.finish -/

@[simp] theorem State.finish_porst (s : State) (d : WindowId → Bool) (f : BranchId → Option ControlStatus) : (s.finish d f).porst = s.porst := by
  simp [State.finish]

@[simp] theorem State.finish_timeBase (s : State) (d : WindowId → Bool) (f : BranchId → Option ControlStatus) : (s.finish d f).timeBase = s.timeBase := by
  simp [State.finish]

@[simp] theorem State.finish_timing (s : State) (d : WindowId → Bool) (f : BranchId → Option ControlStatus) : (s.finish d f).timing = s.timing := by
  simp [State.finish]

@[simp] theorem State.finish_entries (s : State) (d : WindowId → Bool) (f : BranchId → Option ControlStatus) : (s.finish d f).entries = s.entries := by
  simp [State.finish]

@[simp] theorem State.finish_branches (s : State) (d : WindowId → Bool) (f : BranchId → Option ControlStatus) : (s.finish d f).branches = s.branches := by
  simp [State.finish]

@[simp] theorem State.finish_lines (s : State) (d : WindowId → Bool) (f : BranchId → Option ControlStatus) : (s.finish d f).lines = s.lines := by
  simp [State.finish]

@[simp] theorem State.finish_deliveries (s : State) (d : WindowId → Bool) (f : BranchId → Option ControlStatus) : (s.finish d f).deliveries = s.deliveries := by
  simp [State.finish]

@[simp] theorem State.finish_intake (s : State) (d : WindowId → Bool) (f : BranchId → Option ControlStatus) : (s.finish d f).intake = s.intake := by
  simp [State.finish]

@[simp] theorem State.finish_acc (s : State) (d : WindowId → Bool) (f : BranchId → Option ControlStatus) : (s.finish d f).acc = s.acc := by
  simp [State.finish]

@[simp] theorem State.finish_replyQ (s : State) (d : WindowId → Bool) (f : BranchId → Option ControlStatus) : (s.finish d f).replyQ = s.replyQ := by
  simp [State.finish]

@[simp] theorem State.finish_trunk (s : State) (d : WindowId → Bool) (f : BranchId → Option ControlStatus) : (s.finish d f).trunk = s.trunk := by
  simp [State.finish]

@[simp] theorem State.finish_faults (s : State) (d : WindowId → Bool) (f : BranchId → Option ControlStatus) : (s.finish d f).faults = s.faults := by
  simp [State.finish]

@[simp] theorem State.finish_counters (s : State) (d : WindowId → Bool) (f : BranchId → Option ControlStatus) : (s.finish d f).counters = s.counters := by
  simp [State.finish]

@[simp] theorem State.finish_pending (s : State) (d : WindowId → Bool) (f : BranchId → Option ControlStatus) : (s.finish d f).pending = s.pending := by
  simp [State.finish]

/-! ### State.settle -/

@[simp] theorem State.settle_porst (s : State) (ws : WindowId → Bool) (bs : BranchId → Bool) : (s.settle ws bs).porst = s.porst := by
  simp [State.settle]

@[simp] theorem State.settle_timeBase (s : State) (ws : WindowId → Bool) (bs : BranchId → Bool) : (s.settle ws bs).timeBase = s.timeBase := by
  simp [State.settle]

@[simp] theorem State.settle_timing (s : State) (ws : WindowId → Bool) (bs : BranchId → Bool) : (s.settle ws bs).timing = s.timing := by
  simp [State.settle]

@[simp] theorem State.settle_entries (s : State) (ws : WindowId → Bool) (bs : BranchId → Bool) : (s.settle ws bs).entries = s.entries := by
  simp [State.settle]

@[simp] theorem State.settle_lines (s : State) (ws : WindowId → Bool) (bs : BranchId → Bool) : (s.settle ws bs).lines = s.lines := by
  simp [State.settle]

@[simp] theorem State.settle_deliveries (s : State) (ws : WindowId → Bool) (bs : BranchId → Bool) : (s.settle ws bs).deliveries = s.deliveries := by
  simp [State.settle]

@[simp] theorem State.settle_intake (s : State) (ws : WindowId → Bool) (bs : BranchId → Bool) : (s.settle ws bs).intake = s.intake := by
  simp [State.settle]

@[simp] theorem State.settle_acc (s : State) (ws : WindowId → Bool) (bs : BranchId → Bool) : (s.settle ws bs).acc = s.acc := by
  simp [State.settle]

@[simp] theorem State.settle_replyQ (s : State) (ws : WindowId → Bool) (bs : BranchId → Bool) : (s.settle ws bs).replyQ = s.replyQ := by
  simp [State.settle]

@[simp] theorem State.settle_trunk (s : State) (ws : WindowId → Bool) (bs : BranchId → Bool) : (s.settle ws bs).trunk = s.trunk := by
  simp [State.settle]

@[simp] theorem State.settle_faults (s : State) (ws : WindowId → Bool) (bs : BranchId → Bool) : (s.settle ws bs).faults = s.faults := by
  simp [State.settle]

@[simp] theorem State.settle_counters (s : State) (ws : WindowId → Bool) (bs : BranchId → Bool) : (s.settle ws bs).counters = s.counters := by
  simp [State.settle]

@[simp] theorem State.settle_pending (s : State) (ws : WindowId → Bool) (bs : BranchId → Bool) : (s.settle ws bs).pending = s.pending := by
  simp [State.settle]

/-! ### State.answerEntry -/

@[simp] theorem State.answerEntry_porst (s : State) (e : EntryId) (h : Held) (o : Bool) (st : ReplyStatus) (ws : List Word) : (s.answerEntry e h o st ws).porst = s.porst := by
  simp [State.answerEntry]

@[simp] theorem State.answerEntry_timeBase (s : State) (e : EntryId) (h : Held) (o : Bool) (st : ReplyStatus) (ws : List Word) : (s.answerEntry e h o st ws).timeBase = s.timeBase := by
  simp [State.answerEntry]

@[simp] theorem State.answerEntry_timing (s : State) (e : EntryId) (h : Held) (o : Bool) (st : ReplyStatus) (ws : List Word) : (s.answerEntry e h o st ws).timing = s.timing := by
  simp [State.answerEntry]

@[simp] theorem State.answerEntry_entries (s : State) (e : EntryId) (h : Held) (o : Bool) (st : ReplyStatus) (ws : List Word) :
    (s.answerEntry e h o st ws).entries = s.entries.set e (.answered h o) := by
  simp [State.answerEntry]

@[simp] theorem State.answerEntry_lines (s : State) (e : EntryId) (h : Held) (o : Bool) (st : ReplyStatus) (ws : List Word) : (s.answerEntry e h o st ws).lines = s.lines := by
  simp [State.answerEntry]

@[simp] theorem State.answerEntry_deliveries (s : State) (e : EntryId) (h : Held) (o : Bool) (st : ReplyStatus) (ws : List Word) : (s.answerEntry e h o st ws).deliveries = s.deliveries := by
  simp [State.answerEntry]

@[simp] theorem State.answerEntry_intake (s : State) (e : EntryId) (h : Held) (o : Bool) (st : ReplyStatus) (ws : List Word) : (s.answerEntry e h o st ws).intake = s.intake := by
  simp [State.answerEntry]

@[simp] theorem State.answerEntry_acc (s : State) (e : EntryId) (h : Held) (o : Bool) (st : ReplyStatus) (ws : List Word) : (s.answerEntry e h o st ws).acc = s.acc := by
  simp [State.answerEntry]

@[simp] theorem State.answerEntry_replyQ (s : State) (e : EntryId) (h : Held) (o : Bool) (st : ReplyStatus) (ws : List Word) :
    (s.answerEntry e h o st ws).replyQ = s.replyQ ++ [⟨h.tag, st, ws, .entry e⟩] := by
  simp [State.answerEntry]

@[simp] theorem State.answerEntry_trunk (s : State) (e : EntryId) (h : Held) (o : Bool) (st : ReplyStatus) (ws : List Word) : (s.answerEntry e h o st ws).trunk = s.trunk := by
  simp [State.answerEntry]

@[simp] theorem State.answerEntry_faults (s : State) (e : EntryId) (h : Held) (o : Bool) (st : ReplyStatus) (ws : List Word) : (s.answerEntry e h o st ws).faults = s.faults := by
  simp [State.answerEntry]

@[simp] theorem State.answerEntry_counters (s : State) (e : EntryId) (h : Held) (o : Bool) (st : ReplyStatus) (ws : List Word) : (s.answerEntry e h o st ws).counters = s.counters := by
  simp [State.answerEntry]

@[simp] theorem State.answerEntry_pending (s : State) (e : EntryId) (h : Held) (o : Bool) (st : ReplyStatus) (ws : List Word) : (s.answerEntry e h o st ws).pending = s.pending := by
  simp [State.answerEntry]

/-! ### State.lose -/

@[simp] theorem State.lose_porst (s : State) (b : BranchId) (st : BranchState) : (s.lose b st).porst = s.porst := by
  simp [State.lose]

@[simp] theorem State.lose_timeBase (s : State) (b : BranchId) (st : BranchState) : (s.lose b st).timeBase = s.timeBase := by
  simp [State.lose]

@[simp] theorem State.lose_timing (s : State) (b : BranchId) (st : BranchState) : (s.lose b st).timing = s.timing := by
  simp [State.lose]

@[simp] theorem State.lose_branches (s : State) (b : BranchId) (st : BranchState) :
    (s.lose b st).branches = s.branches.set b { s.branches[b].lose with state := st } := by
  simp [State.lose]

@[simp] theorem State.lose_deliveries (s : State) (b : BranchId) (st : BranchState) : (s.lose b st).deliveries = s.deliveries := by
  simp [State.lose]

@[simp] theorem State.lose_intake (s : State) (b : BranchId) (st : BranchState) : (s.lose b st).intake = s.intake := by
  simp [State.lose]

@[simp] theorem State.lose_acc (s : State) (b : BranchId) (st : BranchState) : (s.lose b st).acc = s.acc := by
  simp [State.lose]

@[simp] theorem State.lose_replyQ (s : State) (b : BranchId) (st : BranchState) :
    (s.lose b st).replyQ = s.replyQ ++ s.owed (fun c => decide (c = b)) .branchDown := by
  simp [State.lose]

@[simp] theorem State.lose_trunk (s : State) (b : BranchId) (st : BranchState) : (s.lose b st).trunk = s.trunk := by
  simp [State.lose]

@[simp] theorem State.lose_faults (s : State) (b : BranchId) (st : BranchState) : (s.lose b st).faults = s.faults := by
  simp [State.lose]

@[simp] theorem State.lose_counters (s : State) (b : BranchId) (st : BranchState) : (s.lose b st).counters = s.counters := by
  simp [State.lose]

@[simp] theorem State.lose_pending (s : State) (b : BranchId) (st : BranchState) : (s.lose b st).pending = s.pending := by
  simp [State.lose]

/-! ### State.clearPath -/

@[simp] theorem State.clearPath_porst (s : State) : s.clearPath.porst = s.porst := by
  simp [State.clearPath]

@[simp] theorem State.clearPath_timeBase (s : State) : s.clearPath.timeBase = s.timeBase := by
  simp [State.clearPath]

@[simp] theorem State.clearPath_timing (s : State) : s.clearPath.timing = s.timing := by
  simp [State.clearPath]

@[simp] theorem State.clearPath_lines (s : State) : s.clearPath.lines = s.lines := by
  simp [State.clearPath]

@[simp] theorem State.clearPath_deliveries (s : State) : s.clearPath.deliveries = s.deliveries := by
  simp [State.clearPath]

@[simp] theorem State.clearPath_intake (s : State) : s.clearPath.intake = s.intake := by
  simp [State.clearPath]

@[simp] theorem State.clearPath_acc (s : State) : s.clearPath.acc = s.acc := by
  simp [State.clearPath]

@[simp] theorem State.clearPath_replyQ (s : State) :
    s.clearPath.replyQ = s.replyQ ++ s.owed (fun _ => true) .aborted := by
  simp [State.clearPath]

@[simp] theorem State.clearPath_trunk (s : State) : s.clearPath.trunk = s.trunk := by
  simp [State.clearPath]

@[simp] theorem State.clearPath_faults (s : State) : s.clearPath.faults = s.faults := by
  simp [State.clearPath]

@[simp] theorem State.clearPath_counters (s : State) : s.clearPath.counters = s.counters := by
  simp [State.clearPath]

@[simp] theorem State.clearPath_pending (s : State) : s.clearPath.pending = s.pending := by
  simp [State.clearPath]

/-! ### State.transmit -/

@[simp] theorem State.transmit_porst (s : State) (f : TrunkFrame) (p : Source) : (s.transmit f p).porst = s.porst := rfl

@[simp] theorem State.transmit_timeBase (s : State) (f : TrunkFrame) (p : Source) : (s.transmit f p).timeBase = s.timeBase := rfl

@[simp] theorem State.transmit_timing (s : State) (f : TrunkFrame) (p : Source) : (s.transmit f p).timing = s.timing := rfl

@[simp] theorem State.transmit_windows (s : State) (f : TrunkFrame) (p : Source) : (s.transmit f p).windows = s.windows := rfl

@[simp] theorem State.transmit_entries (s : State) (f : TrunkFrame) (p : Source) : (s.transmit f p).entries = s.entries := rfl

@[simp] theorem State.transmit_branches (s : State) (f : TrunkFrame) (p : Source) : (s.transmit f p).branches = s.branches := rfl

@[simp] theorem State.transmit_lines (s : State) (f : TrunkFrame) (p : Source) : (s.transmit f p).lines = s.lines := rfl

@[simp] theorem State.transmit_deliveries (s : State) (f : TrunkFrame) (p : Source) : (s.transmit f p).deliveries = s.deliveries := rfl

@[simp] theorem State.transmit_intake (s : State) (f : TrunkFrame) (p : Source) : (s.transmit f p).intake = s.intake := rfl

@[simp] theorem State.transmit_acc (s : State) (f : TrunkFrame) (p : Source) : (s.transmit f p).acc = s.acc := rfl

@[simp] theorem State.transmit_replyQ (s : State) (f : TrunkFrame) (p : Source) : (s.transmit f p).replyQ = s.replyQ := rfl

@[simp] theorem State.transmit_ctlQ (s : State) (f : TrunkFrame) (p : Source) : (s.transmit f p).ctlQ = s.ctlQ := rfl

@[simp] theorem State.transmit_trunk (s : State) (f : TrunkFrame) (p : Source) :
    (s.transmit f p).trunk = { s.trunk with tx := some f, pointer := p } := rfl

@[simp] theorem State.transmit_pcl (s : State) (f : TrunkFrame) (p : Source) : (s.transmit f p).pcl = s.pcl := rfl

@[simp] theorem State.transmit_faults (s : State) (f : TrunkFrame) (p : Source) : (s.transmit f p).faults = s.faults := rfl

@[simp] theorem State.transmit_counters (s : State) (f : TrunkFrame) (p : Source) : (s.transmit f p).counters = s.counters := rfl

@[simp] theorem State.transmit_pending (s : State) (f : TrunkFrame) (p : Source) : (s.transmit f p).pending = s.pending := rfl

/-! ### State.append -/

@[simp] theorem State.append_porst (s : State) (b : BranchId) (i : Item) : (s.append b i).porst = s.porst := rfl

@[simp] theorem State.append_timeBase (s : State) (b : BranchId) (i : Item) : (s.append b i).timeBase = s.timeBase := rfl

@[simp] theorem State.append_timing (s : State) (b : BranchId) (i : Item) : (s.append b i).timing = s.timing := rfl

@[simp] theorem State.append_windows (s : State) (b : BranchId) (i : Item) : (s.append b i).windows = s.windows := rfl

@[simp] theorem State.append_entries (s : State) (b : BranchId) (i : Item) : (s.append b i).entries = s.entries := rfl

@[simp] theorem State.append_lines (s : State) (b : BranchId) (i : Item) : (s.append b i).lines = s.lines := rfl

@[simp] theorem State.append_deliveries (s : State) (b : BranchId) (i : Item) : (s.append b i).deliveries = s.deliveries := rfl

@[simp] theorem State.append_intake (s : State) (b : BranchId) (i : Item) : (s.append b i).intake = s.intake := rfl

@[simp] theorem State.append_acc (s : State) (b : BranchId) (i : Item) : (s.append b i).acc = s.acc := rfl

@[simp] theorem State.append_replyQ (s : State) (b : BranchId) (i : Item) : (s.append b i).replyQ = s.replyQ := rfl

@[simp] theorem State.append_ctlQ (s : State) (b : BranchId) (i : Item) : (s.append b i).ctlQ = s.ctlQ := rfl

@[simp] theorem State.append_trunk (s : State) (b : BranchId) (i : Item) : (s.append b i).trunk = s.trunk := rfl

@[simp] theorem State.append_pcl (s : State) (b : BranchId) (i : Item) : (s.append b i).pcl = s.pcl := rfl

@[simp] theorem State.append_faults (s : State) (b : BranchId) (i : Item) : (s.append b i).faults = s.faults := rfl

@[simp] theorem State.append_counters (s : State) (b : BranchId) (i : Item) : (s.append b i).counters = s.counters := rfl

@[simp] theorem State.append_pending (s : State) (b : BranchId) (i : Item) : (s.append b i).pending = s.pending := rfl

/-! ### State.deliver -/

@[simp] theorem State.deliver_porst (s : State) (n : LineId) : (s.deliver n).porst = s.porst := rfl

@[simp] theorem State.deliver_timeBase (s : State) (n : LineId) : (s.deliver n).timeBase = s.timeBase := rfl

@[simp] theorem State.deliver_timing (s : State) (n : LineId) : (s.deliver n).timing = s.timing := rfl

@[simp] theorem State.deliver_windows (s : State) (n : LineId) : (s.deliver n).windows = s.windows := rfl

@[simp] theorem State.deliver_entries (s : State) (n : LineId) : (s.deliver n).entries = s.entries := rfl

@[simp] theorem State.deliver_branches (s : State) (n : LineId) : (s.deliver n).branches = s.branches := rfl

@[simp] theorem State.deliver_lines (s : State) (n : LineId) :
    (s.deliver n).lines = s.lines.set n { s.lines[n] with state := .delivered, again := false } := rfl

@[simp] theorem State.deliver_deliveries (s : State) (n : LineId) :
    (s.deliver n).deliveries = s.deliveries ++ [⟨n, s.lines[n].vector, .firstDue, 0⟩] := rfl

@[simp] theorem State.deliver_intake (s : State) (n : LineId) : (s.deliver n).intake = s.intake := rfl

@[simp] theorem State.deliver_acc (s : State) (n : LineId) : (s.deliver n).acc = s.acc := rfl

@[simp] theorem State.deliver_replyQ (s : State) (n : LineId) : (s.deliver n).replyQ = s.replyQ := rfl

@[simp] theorem State.deliver_ctlQ (s : State) (n : LineId) : (s.deliver n).ctlQ = s.ctlQ := rfl

@[simp] theorem State.deliver_trunk (s : State) (n : LineId) : (s.deliver n).trunk = s.trunk := rfl

@[simp] theorem State.deliver_pcl (s : State) (n : LineId) : (s.deliver n).pcl = s.pcl := rfl

@[simp] theorem State.deliver_faults (s : State) (n : LineId) : (s.deliver n).faults = s.faults := rfl

@[simp] theorem State.deliver_counters (s : State) (n : LineId) : (s.deliver n).counters = s.counters := rfl

@[simp] theorem State.deliver_pending (s : State) (n : LineId) : (s.deliver n).pending = s.pending := rfl

/-! ### State.countCoalesced -/

@[simp] theorem State.countCoalesced_porst (s : State) : s.countCoalesced.porst = s.porst := by
  unfold State.countCoalesced; dsimp only; split <;> rfl

@[simp] theorem State.countCoalesced_timeBase (s : State) : s.countCoalesced.timeBase = s.timeBase := by
  unfold State.countCoalesced; dsimp only; split <;> rfl

@[simp] theorem State.countCoalesced_timing (s : State) : s.countCoalesced.timing = s.timing := by
  unfold State.countCoalesced; dsimp only; split <;> rfl

@[simp] theorem State.countCoalesced_windows (s : State) : s.countCoalesced.windows = s.windows := by
  unfold State.countCoalesced; dsimp only; split <;> rfl

@[simp] theorem State.countCoalesced_entries (s : State) : s.countCoalesced.entries = s.entries := by
  unfold State.countCoalesced; dsimp only; split <;> rfl

@[simp] theorem State.countCoalesced_branches (s : State) : s.countCoalesced.branches = s.branches := by
  unfold State.countCoalesced; dsimp only; split <;> rfl

@[simp] theorem State.countCoalesced_deliveries (s : State) : s.countCoalesced.deliveries = s.deliveries := by
  unfold State.countCoalesced; dsimp only; split <;> rfl

@[simp] theorem State.countCoalesced_intake (s : State) : s.countCoalesced.intake = s.intake := by
  unfold State.countCoalesced; dsimp only; split <;> rfl

@[simp] theorem State.countCoalesced_acc (s : State) : s.countCoalesced.acc = s.acc := by
  unfold State.countCoalesced; dsimp only; split <;> rfl

@[simp] theorem State.countCoalesced_replyQ (s : State) : s.countCoalesced.replyQ = s.replyQ := by
  unfold State.countCoalesced; dsimp only; split <;> rfl

@[simp] theorem State.countCoalesced_ctlQ (s : State) : s.countCoalesced.ctlQ = s.ctlQ := by
  unfold State.countCoalesced; dsimp only; split <;> rfl

@[simp] theorem State.countCoalesced_trunk (s : State) : s.countCoalesced.trunk = s.trunk := by
  unfold State.countCoalesced; dsimp only; split <;> rfl

@[simp] theorem State.countCoalesced_pcl (s : State) : s.countCoalesced.pcl = s.pcl := by
  unfold State.countCoalesced; dsimp only; split <;> rfl

@[simp] theorem State.countCoalesced_faults (s : State) : s.countCoalesced.faults = s.faults := by
  unfold State.countCoalesced; dsimp only; split <;> rfl

@[simp] theorem State.countCoalesced_pending (s : State) : s.countCoalesced.pending = s.pending := by
  unfold State.countCoalesced; dsimp only; split <;> rfl

/-! ### State.raise -/

@[simp] theorem State.raise_porst (s : State) (n : LineId) : (s.raise n).porst = s.porst := by
  unfold State.raise; dsimp only; split <;> simp

@[simp] theorem State.raise_timeBase (s : State) (n : LineId) : (s.raise n).timeBase = s.timeBase := by
  unfold State.raise; dsimp only; split <;> simp

@[simp] theorem State.raise_timing (s : State) (n : LineId) : (s.raise n).timing = s.timing := by
  unfold State.raise; dsimp only; split <;> simp

@[simp] theorem State.raise_windows (s : State) (n : LineId) : (s.raise n).windows = s.windows := by
  unfold State.raise; dsimp only; split <;> simp

@[simp] theorem State.raise_entries (s : State) (n : LineId) : (s.raise n).entries = s.entries := by
  unfold State.raise; dsimp only; split <;> simp

@[simp] theorem State.raise_branches (s : State) (n : LineId) : (s.raise n).branches = s.branches := by
  unfold State.raise; dsimp only; split <;> simp

@[simp] theorem State.raise_deliveries (s : State) (n : LineId) : (s.raise n).deliveries = s.deliveries := by
  unfold State.raise; dsimp only; split <;> simp

@[simp] theorem State.raise_intake (s : State) (n : LineId) : (s.raise n).intake = s.intake := by
  unfold State.raise; dsimp only; split <;> simp

@[simp] theorem State.raise_acc (s : State) (n : LineId) : (s.raise n).acc = s.acc := by
  unfold State.raise; dsimp only; split <;> simp

@[simp] theorem State.raise_replyQ (s : State) (n : LineId) : (s.raise n).replyQ = s.replyQ := by
  unfold State.raise; dsimp only; split <;> simp

@[simp] theorem State.raise_ctlQ (s : State) (n : LineId) : (s.raise n).ctlQ = s.ctlQ := by
  unfold State.raise; dsimp only; split <;> simp

@[simp] theorem State.raise_trunk (s : State) (n : LineId) : (s.raise n).trunk = s.trunk := by
  unfold State.raise; dsimp only; split <;> simp

@[simp] theorem State.raise_pcl (s : State) (n : LineId) : (s.raise n).pcl = s.pcl := by
  unfold State.raise; dsimp only; split <;> simp

@[simp] theorem State.raise_faults (s : State) (n : LineId) : (s.raise n).faults = s.faults := by
  unfold State.raise; dsimp only; split <;> simp

@[simp] theorem State.raise_pending (s : State) (n : LineId) : (s.raise n).pending = s.pending := by
  unfold State.raise; dsimp only; split <;> simp

/-! ### State.raiseInternal -/

@[simp] theorem State.raiseInternal_porst (s : State) (k : Fin 8) : (s.raiseInternal k).porst = s.porst := by
  simp [State.raiseInternal]

@[simp] theorem State.raiseInternal_timeBase (s : State) (k : Fin 8) : (s.raiseInternal k).timeBase = s.timeBase := by
  simp [State.raiseInternal]

@[simp] theorem State.raiseInternal_timing (s : State) (k : Fin 8) : (s.raiseInternal k).timing = s.timing := by
  simp [State.raiseInternal]

@[simp] theorem State.raiseInternal_windows (s : State) (k : Fin 8) : (s.raiseInternal k).windows = s.windows := by
  simp [State.raiseInternal]

@[simp] theorem State.raiseInternal_entries (s : State) (k : Fin 8) : (s.raiseInternal k).entries = s.entries := by
  simp [State.raiseInternal]

@[simp] theorem State.raiseInternal_branches (s : State) (k : Fin 8) : (s.raiseInternal k).branches = s.branches := by
  simp [State.raiseInternal]

@[simp] theorem State.raiseInternal_deliveries (s : State) (k : Fin 8) : (s.raiseInternal k).deliveries = s.deliveries := by
  simp [State.raiseInternal]

@[simp] theorem State.raiseInternal_intake (s : State) (k : Fin 8) : (s.raiseInternal k).intake = s.intake := by
  simp [State.raiseInternal]

@[simp] theorem State.raiseInternal_acc (s : State) (k : Fin 8) : (s.raiseInternal k).acc = s.acc := by
  simp [State.raiseInternal]

@[simp] theorem State.raiseInternal_replyQ (s : State) (k : Fin 8) : (s.raiseInternal k).replyQ = s.replyQ := by
  simp [State.raiseInternal]

@[simp] theorem State.raiseInternal_ctlQ (s : State) (k : Fin 8) : (s.raiseInternal k).ctlQ = s.ctlQ := by
  simp [State.raiseInternal]

@[simp] theorem State.raiseInternal_trunk (s : State) (k : Fin 8) : (s.raiseInternal k).trunk = s.trunk := by
  simp [State.raiseInternal]

@[simp] theorem State.raiseInternal_pcl (s : State) (k : Fin 8) : (s.raiseInternal k).pcl = s.pcl := by
  simp [State.raiseInternal]

@[simp] theorem State.raiseInternal_faults (s : State) (k : Fin 8) : (s.raiseInternal k).faults = s.faults := by
  simp [State.raiseInternal]

@[simp] theorem State.raiseInternal_pending (s : State) (k : Fin 8) : (s.raiseInternal k).pending = s.pending := by
  simp [State.raiseInternal]

/-! ### State.signalIf -/

@[simp] theorem State.signalIf_porst (s : State) (x : Bool) : (s.signalIf x).porst = s.porst := by
  unfold State.signalIf; split <;> simp

@[simp] theorem State.signalIf_timeBase (s : State) (x : Bool) : (s.signalIf x).timeBase = s.timeBase := by
  unfold State.signalIf; split <;> simp

@[simp] theorem State.signalIf_timing (s : State) (x : Bool) : (s.signalIf x).timing = s.timing := by
  unfold State.signalIf; split <;> simp

@[simp] theorem State.signalIf_windows (s : State) (x : Bool) : (s.signalIf x).windows = s.windows := by
  unfold State.signalIf; split <;> simp

@[simp] theorem State.signalIf_entries (s : State) (x : Bool) : (s.signalIf x).entries = s.entries := by
  unfold State.signalIf; split <;> simp

@[simp] theorem State.signalIf_branches (s : State) (x : Bool) : (s.signalIf x).branches = s.branches := by
  unfold State.signalIf; split <;> simp

@[simp] theorem State.signalIf_deliveries (s : State) (x : Bool) : (s.signalIf x).deliveries = s.deliveries := by
  unfold State.signalIf; split <;> simp

@[simp] theorem State.signalIf_intake (s : State) (x : Bool) : (s.signalIf x).intake = s.intake := by
  unfold State.signalIf; split <;> simp

@[simp] theorem State.signalIf_acc (s : State) (x : Bool) : (s.signalIf x).acc = s.acc := by
  unfold State.signalIf; split <;> simp

@[simp] theorem State.signalIf_replyQ (s : State) (x : Bool) : (s.signalIf x).replyQ = s.replyQ := by
  unfold State.signalIf; split <;> simp

@[simp] theorem State.signalIf_ctlQ (s : State) (x : Bool) : (s.signalIf x).ctlQ = s.ctlQ := by
  unfold State.signalIf; split <;> simp

@[simp] theorem State.signalIf_trunk (s : State) (x : Bool) : (s.signalIf x).trunk = s.trunk := by
  unfold State.signalIf; split <;> simp

@[simp] theorem State.signalIf_pcl (s : State) (x : Bool) : (s.signalIf x).pcl = s.pcl := by
  unfold State.signalIf; split <;> simp

@[simp] theorem State.signalIf_faults (s : State) (x : Bool) : (s.signalIf x).faults = s.faults := by
  unfold State.signalIf; split <;> simp

@[simp] theorem State.signalIf_pending (s : State) (x : Bool) : (s.signalIf x).pending = s.pending := by
  unfold State.signalIf; split <;> simp

/-! ### State.countLate -/

@[simp] theorem State.countLate_porst (s : State) : s.countLate.porst = s.porst := by
  simp [State.countLate]

@[simp] theorem State.countLate_timeBase (s : State) : s.countLate.timeBase = s.timeBase := by
  simp [State.countLate]

@[simp] theorem State.countLate_timing (s : State) : s.countLate.timing = s.timing := by
  simp [State.countLate]

@[simp] theorem State.countLate_windows (s : State) : s.countLate.windows = s.windows := by
  simp [State.countLate]

@[simp] theorem State.countLate_entries (s : State) : s.countLate.entries = s.entries := by
  simp [State.countLate]

@[simp] theorem State.countLate_branches (s : State) : s.countLate.branches = s.branches := by
  simp [State.countLate]

@[simp] theorem State.countLate_deliveries (s : State) : s.countLate.deliveries = s.deliveries := by
  simp [State.countLate]

@[simp] theorem State.countLate_intake (s : State) : s.countLate.intake = s.intake := by
  simp [State.countLate]

@[simp] theorem State.countLate_acc (s : State) : s.countLate.acc = s.acc := by
  simp [State.countLate]

@[simp] theorem State.countLate_replyQ (s : State) : s.countLate.replyQ = s.replyQ := by
  simp [State.countLate]

@[simp] theorem State.countLate_ctlQ (s : State) : s.countLate.ctlQ = s.ctlQ := by
  simp [State.countLate]

@[simp] theorem State.countLate_trunk (s : State) : s.countLate.trunk = s.trunk := by
  simp [State.countLate]

@[simp] theorem State.countLate_pcl (s : State) : s.countLate.pcl = s.pcl := by
  simp [State.countLate]

@[simp] theorem State.countLate_faults (s : State) : s.countLate.faults = s.faults := by
  simp [State.countLate]

@[simp] theorem State.countLate_pending (s : State) : s.countLate.pending = s.pending := by
  simp [State.countLate]

/-! ### State.countStrayAck -/

@[simp] theorem State.countStrayAck_porst (s : State) : s.countStrayAck.porst = s.porst := by
  simp [State.countStrayAck]

@[simp] theorem State.countStrayAck_timeBase (s : State) : s.countStrayAck.timeBase = s.timeBase := by
  simp [State.countStrayAck]

@[simp] theorem State.countStrayAck_timing (s : State) : s.countStrayAck.timing = s.timing := by
  simp [State.countStrayAck]

@[simp] theorem State.countStrayAck_windows (s : State) : s.countStrayAck.windows = s.windows := by
  simp [State.countStrayAck]

@[simp] theorem State.countStrayAck_entries (s : State) : s.countStrayAck.entries = s.entries := by
  simp [State.countStrayAck]

@[simp] theorem State.countStrayAck_branches (s : State) : s.countStrayAck.branches = s.branches := by
  simp [State.countStrayAck]

@[simp] theorem State.countStrayAck_deliveries (s : State) : s.countStrayAck.deliveries = s.deliveries := by
  simp [State.countStrayAck]

@[simp] theorem State.countStrayAck_intake (s : State) : s.countStrayAck.intake = s.intake := by
  simp [State.countStrayAck]

@[simp] theorem State.countStrayAck_acc (s : State) : s.countStrayAck.acc = s.acc := by
  simp [State.countStrayAck]

@[simp] theorem State.countStrayAck_replyQ (s : State) : s.countStrayAck.replyQ = s.replyQ := by
  simp [State.countStrayAck]

@[simp] theorem State.countStrayAck_ctlQ (s : State) : s.countStrayAck.ctlQ = s.ctlQ := by
  simp [State.countStrayAck]

@[simp] theorem State.countStrayAck_trunk (s : State) : s.countStrayAck.trunk = s.trunk := by
  simp [State.countStrayAck]

@[simp] theorem State.countStrayAck_pcl (s : State) : s.countStrayAck.pcl = s.pcl := by
  simp [State.countStrayAck]

@[simp] theorem State.countStrayAck_faults (s : State) : s.countStrayAck.faults = s.faults := by
  simp [State.countStrayAck]

@[simp] theorem State.countStrayAck_pending (s : State) : s.countStrayAck.pending = s.pending := by
  simp [State.countStrayAck]

/-! ### State.countResend -/

@[simp] theorem State.countResend_porst (s : State) : s.countResend.porst = s.porst := by
  simp [State.countResend]

@[simp] theorem State.countResend_timeBase (s : State) : s.countResend.timeBase = s.timeBase := by
  simp [State.countResend]

@[simp] theorem State.countResend_timing (s : State) : s.countResend.timing = s.timing := by
  simp [State.countResend]

@[simp] theorem State.countResend_windows (s : State) : s.countResend.windows = s.windows := by
  simp [State.countResend]

@[simp] theorem State.countResend_entries (s : State) : s.countResend.entries = s.entries := by
  simp [State.countResend]

@[simp] theorem State.countResend_branches (s : State) : s.countResend.branches = s.branches := by
  simp [State.countResend]

@[simp] theorem State.countResend_deliveries (s : State) : s.countResend.deliveries = s.deliveries := by
  simp [State.countResend]

@[simp] theorem State.countResend_intake (s : State) : s.countResend.intake = s.intake := by
  simp [State.countResend]

@[simp] theorem State.countResend_acc (s : State) : s.countResend.acc = s.acc := by
  simp [State.countResend]

@[simp] theorem State.countResend_replyQ (s : State) : s.countResend.replyQ = s.replyQ := by
  simp [State.countResend]

@[simp] theorem State.countResend_ctlQ (s : State) : s.countResend.ctlQ = s.ctlQ := by
  simp [State.countResend]

@[simp] theorem State.countResend_trunk (s : State) : s.countResend.trunk = s.trunk := by
  simp [State.countResend]

@[simp] theorem State.countResend_pcl (s : State) : s.countResend.pcl = s.pcl := by
  simp [State.countResend]

@[simp] theorem State.countResend_faults (s : State) : s.countResend.faults = s.faults := by
  simp [State.countResend]

@[simp] theorem State.countResend_pending (s : State) : s.countResend.pending = s.pending := by
  simp [State.countResend]

/-! ### State.countTrunkReset -/

@[simp] theorem State.countTrunkReset_porst (s : State) : s.countTrunkReset.porst = s.porst := by
  simp [State.countTrunkReset]

@[simp] theorem State.countTrunkReset_timeBase (s : State) : s.countTrunkReset.timeBase = s.timeBase := by
  simp [State.countTrunkReset]

@[simp] theorem State.countTrunkReset_timing (s : State) : s.countTrunkReset.timing = s.timing := by
  simp [State.countTrunkReset]

@[simp] theorem State.countTrunkReset_windows (s : State) : s.countTrunkReset.windows = s.windows := by
  simp [State.countTrunkReset]

@[simp] theorem State.countTrunkReset_entries (s : State) : s.countTrunkReset.entries = s.entries := by
  simp [State.countTrunkReset]

@[simp] theorem State.countTrunkReset_branches (s : State) : s.countTrunkReset.branches = s.branches := by
  simp [State.countTrunkReset]

@[simp] theorem State.countTrunkReset_deliveries (s : State) : s.countTrunkReset.deliveries = s.deliveries := by
  simp [State.countTrunkReset]

@[simp] theorem State.countTrunkReset_intake (s : State) : s.countTrunkReset.intake = s.intake := by
  simp [State.countTrunkReset]

@[simp] theorem State.countTrunkReset_acc (s : State) : s.countTrunkReset.acc = s.acc := by
  simp [State.countTrunkReset]

@[simp] theorem State.countTrunkReset_replyQ (s : State) : s.countTrunkReset.replyQ = s.replyQ := by
  simp [State.countTrunkReset]

@[simp] theorem State.countTrunkReset_ctlQ (s : State) : s.countTrunkReset.ctlQ = s.ctlQ := by
  simp [State.countTrunkReset]

@[simp] theorem State.countTrunkReset_trunk (s : State) : s.countTrunkReset.trunk = s.trunk := by
  simp [State.countTrunkReset]

@[simp] theorem State.countTrunkReset_pcl (s : State) : s.countTrunkReset.pcl = s.pcl := by
  simp [State.countTrunkReset]

@[simp] theorem State.countTrunkReset_faults (s : State) : s.countTrunkReset.faults = s.faults := by
  simp [State.countTrunkReset]

@[simp] theorem State.countTrunkReset_pending (s : State) : s.countTrunkReset.pending = s.pending := by
  simp [State.countTrunkReset]

/-! ### State.countOverflow -/

@[simp] theorem State.countOverflow_porst (s : State) : s.countOverflow.porst = s.porst := by
  simp [State.countOverflow]

@[simp] theorem State.countOverflow_timeBase (s : State) : s.countOverflow.timeBase = s.timeBase := by
  simp [State.countOverflow]

@[simp] theorem State.countOverflow_timing (s : State) : s.countOverflow.timing = s.timing := by
  simp [State.countOverflow]

@[simp] theorem State.countOverflow_windows (s : State) : s.countOverflow.windows = s.windows := by
  simp [State.countOverflow]

@[simp] theorem State.countOverflow_entries (s : State) : s.countOverflow.entries = s.entries := by
  simp [State.countOverflow]

@[simp] theorem State.countOverflow_branches (s : State) : s.countOverflow.branches = s.branches := by
  simp [State.countOverflow]

@[simp] theorem State.countOverflow_deliveries (s : State) : s.countOverflow.deliveries = s.deliveries := by
  simp [State.countOverflow]

@[simp] theorem State.countOverflow_intake (s : State) : s.countOverflow.intake = s.intake := by
  simp [State.countOverflow]

@[simp] theorem State.countOverflow_acc (s : State) : s.countOverflow.acc = s.acc := by
  simp [State.countOverflow]

@[simp] theorem State.countOverflow_replyQ (s : State) : s.countOverflow.replyQ = s.replyQ := by
  simp [State.countOverflow]

@[simp] theorem State.countOverflow_ctlQ (s : State) : s.countOverflow.ctlQ = s.ctlQ := by
  simp [State.countOverflow]

@[simp] theorem State.countOverflow_trunk (s : State) : s.countOverflow.trunk = s.trunk := by
  simp [State.countOverflow]

@[simp] theorem State.countOverflow_pcl (s : State) : s.countOverflow.pcl = s.pcl := by
  simp [State.countOverflow]

@[simp] theorem State.countOverflow_faults (s : State) : s.countOverflow.faults = s.faults := by
  simp [State.countOverflow]

@[simp] theorem State.countOverflow_pending (s : State) : s.countOverflow.pending = s.pending := by
  simp [State.countOverflow]

/-! ### State.recordFault -/

@[simp] theorem State.recordFault_porst (s : State) (x : FaultRecord) : (s.recordFault x).porst = s.porst := by
  unfold State.recordFault; split <;> simp

@[simp] theorem State.recordFault_timeBase (s : State) (x : FaultRecord) : (s.recordFault x).timeBase = s.timeBase := by
  unfold State.recordFault; split <;> simp

@[simp] theorem State.recordFault_timing (s : State) (x : FaultRecord) : (s.recordFault x).timing = s.timing := by
  unfold State.recordFault; split <;> simp

@[simp] theorem State.recordFault_windows (s : State) (x : FaultRecord) : (s.recordFault x).windows = s.windows := by
  unfold State.recordFault; split <;> simp

@[simp] theorem State.recordFault_entries (s : State) (x : FaultRecord) : (s.recordFault x).entries = s.entries := by
  unfold State.recordFault; split <;> simp

@[simp] theorem State.recordFault_branches (s : State) (x : FaultRecord) : (s.recordFault x).branches = s.branches := by
  unfold State.recordFault; split <;> simp

@[simp] theorem State.recordFault_deliveries (s : State) (x : FaultRecord) : (s.recordFault x).deliveries = s.deliveries := by
  unfold State.recordFault; split <;> simp

@[simp] theorem State.recordFault_intake (s : State) (x : FaultRecord) : (s.recordFault x).intake = s.intake := by
  unfold State.recordFault; split <;> simp

@[simp] theorem State.recordFault_acc (s : State) (x : FaultRecord) : (s.recordFault x).acc = s.acc := by
  unfold State.recordFault; split <;> simp

@[simp] theorem State.recordFault_replyQ (s : State) (x : FaultRecord) : (s.recordFault x).replyQ = s.replyQ := by
  unfold State.recordFault; split <;> simp

@[simp] theorem State.recordFault_ctlQ (s : State) (x : FaultRecord) : (s.recordFault x).ctlQ = s.ctlQ := by
  unfold State.recordFault; split <;> simp

@[simp] theorem State.recordFault_trunk (s : State) (x : FaultRecord) : (s.recordFault x).trunk = s.trunk := by
  unfold State.recordFault; split <;> simp

@[simp] theorem State.recordFault_pcl (s : State) (x : FaultRecord) : (s.recordFault x).pcl = s.pcl := by
  unfold State.recordFault; split <;> simp

@[simp] theorem State.recordFault_pending (s : State) (x : FaultRecord) : (s.recordFault x).pending = s.pending := by
  unfold State.recordFault; split <;> simp

/-! ### State.markRelease -/

@[simp] theorem State.markRelease_porst (s : State) (n : LineId) : (s.markRelease n).porst = s.porst := by
  unfold State.markRelease; split <;> (try split) <;> rfl

@[simp] theorem State.markRelease_timeBase (s : State) (n : LineId) : (s.markRelease n).timeBase = s.timeBase := by
  unfold State.markRelease; split <;> (try split) <;> rfl

@[simp] theorem State.markRelease_timing (s : State) (n : LineId) : (s.markRelease n).timing = s.timing := by
  unfold State.markRelease; split <;> (try split) <;> rfl

@[simp] theorem State.markRelease_windows (s : State) (n : LineId) : (s.markRelease n).windows = s.windows := by
  unfold State.markRelease; split <;> (try split) <;> rfl

@[simp] theorem State.markRelease_entries (s : State) (n : LineId) : (s.markRelease n).entries = s.entries := by
  unfold State.markRelease; split <;> (try split) <;> rfl

@[simp] theorem State.markRelease_lines (s : State) (n : LineId) : (s.markRelease n).lines = s.lines := by
  unfold State.markRelease; split <;> (try split) <;> rfl

@[simp] theorem State.markRelease_deliveries (s : State) (n : LineId) : (s.markRelease n).deliveries = s.deliveries := by
  unfold State.markRelease; split <;> (try split) <;> rfl

@[simp] theorem State.markRelease_intake (s : State) (n : LineId) : (s.markRelease n).intake = s.intake := by
  unfold State.markRelease; split <;> (try split) <;> rfl

@[simp] theorem State.markRelease_acc (s : State) (n : LineId) : (s.markRelease n).acc = s.acc := by
  unfold State.markRelease; split <;> (try split) <;> rfl

@[simp] theorem State.markRelease_replyQ (s : State) (n : LineId) : (s.markRelease n).replyQ = s.replyQ := by
  unfold State.markRelease; split <;> (try split) <;> rfl

@[simp] theorem State.markRelease_ctlQ (s : State) (n : LineId) : (s.markRelease n).ctlQ = s.ctlQ := by
  unfold State.markRelease; split <;> (try split) <;> rfl

@[simp] theorem State.markRelease_trunk (s : State) (n : LineId) : (s.markRelease n).trunk = s.trunk := by
  unfold State.markRelease; split <;> (try split) <;> rfl

@[simp] theorem State.markRelease_pcl (s : State) (n : LineId) : (s.markRelease n).pcl = s.pcl := by
  unfold State.markRelease; split <;> (try split) <;> rfl

@[simp] theorem State.markRelease_faults (s : State) (n : LineId) : (s.markRelease n).faults = s.faults := by
  unfold State.markRelease; split <;> (try split) <;> rfl

@[simp] theorem State.markRelease_counters (s : State) (n : LineId) : (s.markRelease n).counters = s.counters := by
  unfold State.markRelease; split <;> (try split) <;> rfl

@[simp] theorem State.markRelease_pending (s : State) (n : LineId) : (s.markRelease n).pending = s.pending := by
  unfold State.markRelease; split <;> (try split) <;> rfl

/-! ### State.resetWork -/

@[simp] theorem State.resetWork_porst (s : State) (seq : BitVec 8) (b : BranchId) : (s.resetWork seq b).porst = s.porst := by
  simp only [State.resetWork]; split <;> simp

@[simp] theorem State.resetWork_timeBase (s : State) (seq : BitVec 8) (b : BranchId) : (s.resetWork seq b).timeBase = s.timeBase := by
  simp only [State.resetWork]; split <;> simp

@[simp] theorem State.resetWork_timing (s : State) (seq : BitVec 8) (b : BranchId) : (s.resetWork seq b).timing = s.timing := by
  simp only [State.resetWork]; split <;> simp

@[simp] theorem State.resetWork_deliveries (s : State) (seq : BitVec 8) (b : BranchId) : (s.resetWork seq b).deliveries = s.deliveries := by
  simp only [State.resetWork]; split <;> simp

@[simp] theorem State.resetWork_intake (s : State) (seq : BitVec 8) (b : BranchId) : (s.resetWork seq b).intake = s.intake := by
  simp only [State.resetWork]; split <;> simp

@[simp] theorem State.resetWork_acc (s : State) (seq : BitVec 8) (b : BranchId) : (s.resetWork seq b).acc = s.acc := by
  simp only [State.resetWork]; split <;> simp

@[simp] theorem State.resetWork_trunk (s : State) (seq : BitVec 8) (b : BranchId) : (s.resetWork seq b).trunk = s.trunk := by
  simp only [State.resetWork]; split <;> simp

@[simp] theorem State.resetWork_pending (s : State) (seq : BitVec 8) (b : BranchId) : (s.resetWork seq b).pending = s.pending := by
  simp only [State.resetWork]; split <;> simp

end Sys2Proof.Machine
end

