-- ==== Sys2Proof/Laws/Ops.lean ====
section
/-! SUPPORT. What each shared operation does, said once: the record it writes and those it leaves, the order in which a search over a
table answers, what a completion keeps in balance. Provers cite these instead of unfolding the operations. -/

namespace Sys2Proof.Machine

open Sys2Proof.Safety

/-! ## One record of a table -/

@[simp] theorem setEntry_self (s : State) (e : EntryId) (x : Entry) : (s.setEntry e x).entries[e] = x := by
  simp

theorem setEntry_other (s : State) (e : EntryId) (x : Entry) : OtherEntries e s (s.setEntry e x) := by
  intro f hf
  have : (e : Nat) ≠ f := fun h => hf (Fin.ext h.symm)
  simp [Vector.getElem_set_ne, this]

@[simp] theorem setWindow_self (s : State) (w : WindowId) (x : Window) : (s.setWindow w x).windows[w] = x := by
  simp

theorem setWindow_other (s : State) (w : WindowId) (x : Window) : OtherWindows w s (s.setWindow w x) := by
  intro v hv
  have : (w : Nat) ≠ v := fun h => hv (Fin.ext h.symm)
  simp [Vector.getElem_set_ne, this]

@[simp] theorem setBranch_self (s : State) (b : BranchId) (br : Branch) :
    (s.setBranch b br).branches[b] = br.restall s.timeBase s.timing.stall := by
  simp

theorem setBranch_other (s : State) (b : BranchId) (br : Branch) : OtherBranches b s (s.setBranch b br) := by
  intro c hc
  have : (b : Nat) ≠ c := fun h => hc (Fin.ext h.symm)
  simp [Vector.getElem_set_ne, this]

@[simp] theorem setLine_self (s : State) (n : LineId) (ln : Line) : (s.setLine n ln).lines[n] = ln := by
  simp

theorem setLine_other (s : State) (n : LineId) (ln : Line) : OtherLines n s (s.setLine n ln) := by
  intro m hm
  have : (n : Nat) ≠ m := fun h => hm (Fin.ext h.symm)
  simp [Vector.getElem_set_ne, this]

/-! ## The stall timer -/

@[simp] theorem restall_stalled (now len : Time) (br : Branch) : (br.restall now len).stalled = br.stalled := rfl

theorem restall_timerOk (now len : Time) (br : Branch) : TimerOk (br.restall now len) := by
  unfold TimerOk
  rw [restall_stalled]
  unfold Branch.restall
  by_cases h : br.stalled = true <;> simp [h]

/-- A port whose timer agrees with its conditions is left as it is. -/
theorem restall_of_timerOk (now len : Time) (br : Branch) (h : TimerOk br) : br.restall now len = br := by
  unfold TimerOk at h
  unfold Branch.restall
  cases hs : br.stalled with
  | true =>
    rw [hs, Option.isSome_iff_exists] at h
    obtain ⟨d, hd⟩ := h
    cases br
    simp_all
  | false =>
    rw [hs] at h
    have : br.stallTimer = none := by simpa using h
    cases br
    simp_all

theorem restall_of_not_stalled (now len : Time) (br : Branch) (h : br.stalled = false) :
    br.restall now len = { br with stallTimer := none } := by
  unfold Branch.restall
  simp [h]

/-! ## Searches over a table -/

/-- A search over a table answers the lowest index that satisfies the test. -/
theorem find?_finRange_eq_some {n : Nat} (p : Fin n → Bool) (i : Fin n) :
    (List.finRange n).find? p = some i ↔ p i = true ∧ ∀ j : Fin n, j < i → p j = false := by
  constructor
  · intro h
    obtain ⟨hi, as, bs, hl, ha⟩ := List.find?_eq_some_iff_append.mp h
    refine ⟨hi, fun j hj => ?_⟩
    have hs : (as ++ i :: bs).Pairwise (· < ·) := hl ▸ List.pairwise_lt_finRange n
    have hm : j ∈ as ++ i :: bs := hl ▸ List.mem_finRange j
    rcases List.mem_append.mp hm with h1 | h1
    · simpa using ha j h1
    · rcases List.mem_cons.mp h1 with h2 | h2
      · exact absurd hj (by simp [h2])
      · have := (List.pairwise_append.mp hs).2.1
        exact absurd (List.rel_of_pairwise_cons this h2) (by omega)
  · rintro ⟨hi, hj⟩
    cases h : (List.finRange n).find? p with
    | none => exact absurd hi (by simpa using List.find?_eq_none.mp h i (List.mem_finRange i))
    | some k =>
      have hk : p k = true := List.find?_some h
      rcases lt_trichotomy k i with hki | hki | hki
      · exact absurd hk (by simp [hj k hki])
      · rw [hki]
      · obtain ⟨_, as, bs, hl, ha⟩ := List.find?_eq_some_iff_append.mp h
        have hs : (as ++ k :: bs).Pairwise (· < ·) := hl ▸ List.pairwise_lt_finRange n
        have hm : i ∈ as ++ k :: bs := hl ▸ List.mem_finRange i
        rcases List.mem_append.mp hm with h1 | h1
        · exact absurd hi (by simpa using ha i h1)
        · rcases List.mem_cons.mp h1 with h2 | h2
          · rw [h2]
          · have := (List.pairwise_append.mp hs).2.1
            exact absurd (List.rel_of_pairwise_cons this h2) (by omega)

/-- `updateFirst` rewrites the first record that satisfies the test. -/
theorem updateFirst_append (p : Delivery → Bool) (f : Delivery → Delivery) (pre post : List Delivery) (d : Delivery)
    (hpre : ∀ x ∈ pre, p x = false) (hd : p d = true) :
    updateFirst p f (pre ++ d :: post) = pre ++ f d :: post := by
  induction pre with
  | nil => simp [updateFirst, hd]
  | cons x xs ih =>
    simp only [List.cons_append, updateFirst, hpre x (by simp), Bool.false_eq_true, if_false, List.cons.injEq, true_and]
    exact ih fun y hy => hpre y (by simp [hy])

/-- An update that keeps `g` keeps the list of the records' `g`. -/
theorem updateFirst_map {α : Type} (g : Delivery → α) (p : Delivery → Bool) (f : Delivery → Delivery) (hf : ∀ d, g (f d) = g d)
    (ds : List Delivery) : (updateFirst p f ds).map g = ds.map g := by
  induction ds with
  | nil => rfl
  | cons d ds ih =>
    unfold updateFirst
    split
    · simp [hf]
    · simp [ih]

/-! ## Choices -/

/-- What the arbiter chooses it chooses on an UP trunk with a FREE transmitter (R150). -/
theorem trunkChoice_some {s : State} {k : TrunkChoice} (h : s.trunkChoice = some k) :
    s.trunk.state = .up ∧ s.trunk.tx = none := by
  unfold State.trunkChoice at h
  split at h
  · cases h
  · rename_i hn
    by_contra hc
    exact hn (by tauto)

/-- A CREDIT is chosen only when no COMPLETION record waits (R149, R151). -/
theorem trunkChoice_credit {s : State} (h : s.trunkChoice = some .credit) :
    (∀ r ∈ s.ctlQ, r.kind = .immediate) ∧ 0 < s.acc := by
  unfold State.trunkChoice at h
  split at h
  · cases h
  · split at h
    · cases h
    · rename_i hn
      split at h
      · rename_i ha
        refine ⟨fun r hr => ?_, ha⟩
        cases hk : r.kind with
        | immediate => rfl
        | completion => exact absurd (List.any_eq_true.mpr ⟨r, hr, by simp [hk]⟩) hn
      · exfalso
        simp only [Option.map_eq_some_iff] at h
        obtain ⟨x, _, hx⟩ := h
        cases x <;> cases hx

/-- What a port sends it sends in service on a free transmitter (R67). -/
theorem choice_some {br : Branch} {k : BranchChoice} (h : br.choice = some k) :
    br.tx = none ∧ br.state.inService = true := by
  unfold Branch.choice at h
  split at h
  · cases h
  · rename_i hn
    by_contra hc
    refine hn ?_
    rcases not_and_or.mp hc with h1 | h1
    · exact Or.inl h1
    · exact Or.inr (by simpa using h1)

/-- All that a Branch Port's choice says of its record: each choice, and what holds when it is made (R61, R67). -/
theorem choice_says {br : Branch} {k : BranchChoice} : br.choice = some k → br.tx = none ∧ br.state.inService = true ∧
    match k with
    | .grant => br.lendWanted = .granted ∧ br.lendTold = .notGranted
    | .reclaim => br.lendWanted = .notGranted ∧ br.lendTold = .granted
    | .release l => br.lendWanted = br.lendTold ∧ br.releaseMarks[l] = true ∧ ∀ m : Fin 8, m < l → br.releaseMarks[m] = false
    | .issue i => br.lendWanted = br.lendTold ∧ (∀ l : Fin 8, br.releaseMarks[l] = false) ∧ br.state.issues = true ∧
        0 < br.credit ∧ br.queue = i :: br.queue.tail := by
  intro h
  have hs := choice_some h
  refine ⟨hs.1, hs.2, ?_⟩
  unfold Branch.choice at h
  rw [if_neg (by simp [hs.1, hs.2])] at h
  by_cases hl : br.lendWanted = br.lendTold
  · rw [if_neg (by simpa using hl)] at h
    split at h
    · rename_i l hf
      cases h
      exact ⟨hl, (find?_finRange_eq_some _ l).mp hf⟩
    · rename_i hf
      have hm : ∀ l : Fin 8, br.releaseMarks[l] = false := fun l => by
        simpa using List.find?_eq_none.mp hf l (List.mem_finRange l)
      split at h
      · rename_i j js hq
        split at h
        · rename_i hc
          cases h
          simp only [Bool.and_eq_true, decide_eq_true_eq] at hc
          exact ⟨hl, hm, hc.1, hc.2, by rw [hq]; rfl⟩
        · cases h
      · cases h
  · rw [if_pos hl] at h
    cases hw : br.lendWanted <;> cases ht : br.lendTold <;> simp only [hw, ht, not_true_eq_false] at hl h <;> cases h <;> simp

/-- An issue is chosen in ACTIVE or DRAINING, with credit, for the head item, on a free transmitter (R61). -/
theorem choice_issue {br : Branch} {i : Item} (h : br.choice = some (.issue i)) :
    br.tx = none ∧ br.state.issues = true ∧ 0 < br.credit ∧ br.queue = i :: br.queue.tail :=
  have q := choice_says h
  ⟨q.1, q.2.2.2.2.1, q.2.2.2.2.2.1, q.2.2.2.2.2.2⟩

/-! ## The Route Unit's verdict -/

/-- A request that is routed is well formed, no duplicate, in a LIVE window of an ACTIVE branch that has room (7.3). -/
theorem examine_route {s : State} {r : Request} {w : WindowId} (h : s.examine r = .route w) :
    r.malformed = false ∧ (r.isPosted = false → s.tagInUse r.tag = false) ∧ s.windows[w].covers r.address = true ∧
    s.branches[s.windows[w].branch].state = .active ∧ s.hasRoom r s.windows[w].branch = true := by
  unfold State.examine at h
  split at h
  · cases h
  · rename_i hm
    split at h
    · cases h
    · rename_i hd
      split at h
      · rename_i o i ho hl
        unfold State.examineIn at h
        dsimp only at h
        split at h
        · cases h
        · split at h
          · cases h
          · split at h
            · cases h
            · split at h
              · cases h
              · rename_i hr
                split at h
                · rename_i hroom
                  simp only [Verdict.route.injEq] at h
                  subst h
                  refine ⟨by simpa using hm, fun hp => ?_, ?_, ?_, hroom⟩
                  · simpa [hp] using hd
                  · unfold State.lookup at hl
                    have hc := List.find?_some hl
                    exact hc
                  · cases hb : s.branches[s.windows[i].branch].state <;> rw [hb] at hr <;> simp_all [BranchState.refusal]
                · cases h
      · cases h
      · cases h

/-! ## Frames received -/

/-- A frame of the row's kind and of a good size is taken by its owner. -/
theorem takeFrame_good {isRow : Bool} {f : Frame} {checkFails good : State → State} {s : State} (h : isRow = true)
    (hs : f.sizeOk = true) : takeFrame isRow f checkFails good s = .next (good s) := by
  unfold takeFrame
  rw [if_pos h, if_pos hs]

/-- A frame of the row's kind and of a bad size fails its check (R158). -/
theorem takeFrame_bad {isRow : Bool} {f : Frame} {checkFails good : State → State} {s : State} (h : isRow = true)
    (hs : f.sizeOk = false) : takeFrame isRow f checkFails good s = .next (checkFails s) := by
  unfold takeFrame
  rw [if_pos h, hs]
  rfl

/-- A line waits: the Notice Arbiter has a choice (R111, R112). -/
theorem chosenLine_ne_none (s : State) (n : LineId) (hn : s.lines[n].state = .pending) : s.chosenLine ≠ none := by
  intro h
  unfold State.chosenLine at h
  dsimp only at h
  have key : ∀ g : List LineId, g ≠ [] →
      (g.find? fun n => g.all fun m => decide (s.lines[m].priority.toNat ≤ s.lines[n].priority.toNat)) ≠ none := by
    intro g hg hx
    obtain ⟨k, hk, hmax⟩ := Finset.exists_max_image g.toFinset (fun m => s.lines[m].priority.toNat)
      (by simpa [List.toFinset_nonempty_iff] using hg)
    have := List.find?_eq_none.mp hx k (by simpa using hk)
    apply this
    simpa using hmax
  refine key _ ?_ h
  have hm : n ∈ (List.finRange 56).filter fun n => decide (s.lines[n].state = .pending) := by
    simpa using hn
  split
  · exact List.ne_nil_of_mem hm
  · rename_i hq
    simpa using hq

/-! ## The Control Unit -/

/-- A CONTROL frame of the row at the head leaves the queue and is executed (R132, R177). -/
theorem takeControl_row {isRow : Nat → Bool} {run : Control → State → State} {s : State} {c : Control}
    {rest : List IntakeFrame} (h : s.intake = .control c :: rest) (hr : isRow c.command.toNat = true) :
    takeControl isRow run s = .next (run c { s with intake := rest }) := by
  unfold takeControl
  simp only [h]
  rw [if_pos hr]

/-! ## The attention path -/

/-- An increment never passes 65535 (R192). -/
theorem bump_le {n : Nat} (h : n ≤ Config.counterMax) : bump n ≤ Config.counterMax := by
  unfold bump
  split <;> omega

/-- The increment that saturates is the one from 65534 (R192). -/
theorem saturates_eq (n : Nat) : saturates n = decide (n = 65534) := by
  simp [saturates, Config.counterMax]

/-- A fault record is appended while there is room (R188). -/
theorem recordFault_faults_of_lt (s : State) (f : FaultRecord) (h : s.faults.length < 8) :
    (s.recordFault f).faults = s.faults ++ [f] := by
  unfold State.recordFault
  simp [Config.faultCapacity, h]

/-- A fault record is dropped when 8 are held (R188). -/
theorem recordFault_faults_of_ge (s : State) (f : FaultRecord) (h : 8 ≤ s.faults.length) :
    (s.recordFault f).faults = s.faults := by
  unfold State.recordFault
  simp [Config.faultCapacity, Nat.not_lt.mpr h]

/-- A raise leaves the configuration of every line. -/
theorem raise_config (ln : Line) : config ln.raise = config ln := by
  unfold Line.raise config
  split <;> rfl

/-- Raises, counts and records read and write the attention blocks alone, so they do the same from states that agree on them. -/
theorem attention_countCoalesced {s u : State} (h : AttentionOf s u) : AttentionOf s.countCoalesced u.countCoalesced := by
  obtain ⟨hf, hl, hc⟩ := h
  unfold State.countCoalesced
  simp only [hc, hl]
  split <;> exact ⟨by simp [hf], by simp, by simp⟩

theorem attention_raise {s u : State} (n : LineId) (h : AttentionOf s u) : AttentionOf (s.raise n) (u.raise n) := by
  have hset : AttentionOf (s.setLine n s.lines[n].raise) (u.setLine n u.lines[n].raise) := by
    obtain ⟨hf, hl, hc⟩ := h
    exact ⟨by simp [hf], by simp [hl], by simp [hc]⟩
  have hl := h.2.1
  unfold State.raise
  simp only [hl]
  split
  · rw [hl] at hset
    exact attention_countCoalesced hset
  · rw [hl] at hset
    exact hset

theorem attention_raiseInternal {s u : State} (k : Fin 8) (h : AttentionOf s u) :
    AttentionOf (s.raiseInternal k) (u.raiseInternal k) := attention_raise _ h

theorem attention_signalIf {s u : State} (x : Bool) (h : AttentionOf s u) : AttentionOf (s.signalIf x) (u.signalIf x) := by
  unfold State.signalIf
  split
  · exact attention_raiseInternal 6 h
  · exact h

theorem attention_countLate {s u : State} (h : AttentionOf s u) : AttentionOf s.countLate u.countLate := by
  obtain ⟨hf, hl, hc⟩ := h
  unfold State.countLate
  rw [hc]
  exact attention_signalIf _ ⟨hf, hl, rfl⟩

theorem attention_countStrayAck {s u : State} (h : AttentionOf s u) : AttentionOf s.countStrayAck u.countStrayAck := by
  obtain ⟨hf, hl, hc⟩ := h
  unfold State.countStrayAck
  rw [hc]
  exact attention_signalIf _ ⟨hf, hl, rfl⟩

theorem attention_countResend {s u : State} (h : AttentionOf s u) : AttentionOf s.countResend u.countResend := by
  obtain ⟨hf, hl, hc⟩ := h
  unfold State.countResend
  rw [hc]
  exact attention_signalIf _ ⟨hf, hl, rfl⟩

theorem attention_countOverflow {s u : State} (h : AttentionOf s u) : AttentionOf s.countOverflow u.countOverflow := by
  obtain ⟨hf, hl, hc⟩ := h
  unfold State.countOverflow
  rw [hc]
  exact attention_signalIf _ ⟨hf, hl, rfl⟩

theorem attention_recordFault {s u : State} (f : FaultRecord) (h : AttentionOf s u) :
    AttentionOf (s.recordFault f) (u.recordFault f) := by
  unfold State.recordFault
  rw [h.1]
  split
  · exact attention_raiseInternal 0 ⟨rfl, h.2.1, h.2.2⟩
  · exact attention_raiseInternal 5 (attention_countOverflow h)

/-! ## Completions -/

/-- A completion moves records from the Pending Control List to the Control Reply Queue: the sum of those that wait and of the
completions unsent stays (R149, R183). -/
theorem complete_balance (s : State) (f : LongOp → Option ControlStatus) :
    completions (s.complete f) + (s.complete f).pcl.length = completions s + s.pcl.length := by
  unfold completions State.complete
  simp only [List.countP_append]
  generalize s.pcl = l
  induction l with
  | nil => simp
  | cons r rs ih =>
    cases h : f r.op with
    | none => simp [h]; omega
    | some st => simp [h, ControlReply.isImmediate] at ih ⊢; omega

/-- Nothing completes from an empty list. -/
theorem complete_of_empty (s : State) (f : LongOp → Option ControlStatus) (h : s.pcl = []) : s.complete f = s := by
  unfold State.complete
  cases s
  simp_all

/-- Completions hold no credit (R148). -/
theorem complete_immediates (s : State) (f : LongOp → Option ControlStatus) :
    (s.complete f).ctlQ.countP ControlReply.isImmediate = s.ctlQ.countP ControlReply.isImmediate := by
  unfold State.complete
  simp only [List.countP_append]
  generalize s.pcl = l
  induction l with
  | nil => simp
  | cons r rs ih =>
    cases h : f r.op with
    | none => simpa [h] using ih
    | some st => simpa [h, List.countP_cons, ControlReply.isImmediate] using ih

/-- The windows after `settle`: those chosen that have drained are EMPTY (R17). -/
theorem settle_windows (s : State) (ws : WindowId → Bool) (bs : BranchId → Bool) (w : WindowId) :
    (s.settle ws bs).windows[w] = if ws w && s.windows[w].drained then Window.blank else s.windows[w] := by
  simp [State.settle, State.finish]

/-- The branches after `settle`: those chosen that have drained end their drain (R93). -/
theorem settle_branches (s : State) (ws : WindowId → Bool) (bs : BranchId → Bool) (b : BranchId) :
    (s.settle ws bs).branches[b] =
      if bs b && s.drained b then s.branches[b].endDrain.restall s.timeBase s.timing.stall else s.branches[b] := by
  simp [State.settle]

/-- The counts after `uncount` (R9). -/
theorem uncount_windows (s : State) (k : WindowId → Nat) (w : WindowId) :
    (s.uncount k).windows[w] = { s.windows[w] with inFlight := s.windows[w].inFlight - k w } := by
  simp [State.uncount]

/-- The count of the window left by `uncountOne` (R9). -/
theorem uncountOne_windows (s : State) (w : WindowId) :
    (s.uncountOne w).windows = s.windows.set w { s.windows[w] with inFlight := s.windows[w].inFlight - 1 } := by
  ext v hv
  by_cases h : (w : Nat) = v
  · subst h
    simp [State.uncountOne, State.uncount]
  · have : ¬(⟨v, hv⟩ : WindowId) = w := fun hc => h (by simp [← hc])
    simp [State.uncountOne, State.uncount, Vector.getElem_set_ne, h, this]

/-- What it is for a branch to hold work (R90). -/
theorem holdsWork_iff (s : State) (b : BranchId) : s.holdsWork b = true ↔
    (s.branches[b].queue ≠ [] ∨ ∃ (e : EntryId) (h : Held) (d : Time), s.entries[e] = .issued h d ∧ h.branch = b) := by
  unfold State.holdsWork State.hasIssued
  simp only [Bool.or_eq_true, Bool.not_eq_true', List.isEmpty_eq_false_iff, List.any_eq_true]
  apply or_congr Iff.rfl
  constructor
  · rintro ⟨e, _, he⟩
    cases hx : s.entries[e] with
    | issued h d => exact ⟨e, h, d, hx, by rw [hx] at he; simpa [Entry.issuedOn] using he⟩
    | _ => rw [hx] at he; simp [Entry.issuedOn] at he
  · rintro ⟨e, h, d, he, hb⟩
    exact ⟨e, List.mem_finRange e, by rw [he]; simpa [Entry.issuedOn] using hb⟩

/-- What it is for a window to be drained (R17). -/
theorem window_drained_iff (w : Window) : w.drained = true ↔ w.state = .retiring ∧ w.inFlight = 0 := by
  simp [Window.drained]

/-- What it is for a branch to be drained (R93). -/
theorem drained_iff (s : State) (b : BranchId) : s.drained b = true ↔ s.branches[b].state = .draining ∧
    s.branches[b].queue = [] ∧ ∀ (e : EntryId) (h : Held) (d : Time), s.entries[e] = .issued h d → h.branch ≠ b := by
  unfold State.drained
  rw [Bool.and_eq_true, decide_eq_true_eq, Bool.not_eq_true', ← Bool.not_eq_true, holdsWork_iff]
  simp only [not_or, not_exists, not_and, ne_eq, not_not]

/-- A branch whose drain ends has no stall timer (R71). -/
theorem restall_endDrain (now len : Time) (br : Branch) :
    br.endDrain.restall now len = { br.endDrain with stallTimer := none } := by
  apply restall_of_not_stalled
  simp only [Branch.endDrain, Branch.enterFence, Branch.stalled]
  split <;> simp [BranchState.issues]

/-- The completions read the list and the queue alone. -/
theorem complete_congr {s u : State} {f g : LongOp → Option ControlStatus} (hf : ∀ op, f op = g op) (hp : s.pcl = u.pcl)
    (hq : s.ctlQ = u.ctlQ) : (s.complete f).pcl = (u.complete g).pcl ∧ (s.complete f).ctlQ = (u.complete g).ctlQ := by
  obtain rfl : f = g := funext hf
  unfold State.complete
  simp only [hp, hq, and_self]

/-- What completes has left the list: no operation that stays is one that completes (R183). -/
theorem complete_left {s : State} {f : LongOp → Option ControlStatus} {r : PendingControl} (h : r ∈ (s.complete f).pcl) :
    f r.op = none := by
  simpa [State.complete] using (List.mem_filter.mp h).2

/-! ## Branch loss -/

/-- The lines after a loss, as the rule tables them (R83). -/
theorem lose_lines (s : State) (b : BranchId) (st : BranchState) :
    (s.lose b st).lines = lostLines s b := by
  have hl : (s.lose b st).lines = Vector.ofFn fun n => if onBranch b n then s.lines[n].lose else s.lines[n] := by
    simp [State.lose]
  rw [hl]
  unfold lostLines
  congr 1
  funext n
  have hb : onBranch b n = true ↔ n.val / 8 = b.val := by
    unfold onBranch lineBranch
    split
    · rename_i h
      split at h
      · simp only [Option.some.injEq, Prod.mk.injEq] at h
        obtain ⟨rfl, _⟩ := h
        simp [Fin.ext_iff]
      · cases h
    · rename_i h
      split at h
      · cases h
      · simp only [Bool.false_eq_true, false_iff]
        omega
  by_cases h : n.val / 8 = b.val
  · rw [if_pos (hb.mpr h), if_pos h]
    unfold Line.lose
    split <;> simp_all
  · rw [if_neg (by rw [hb]; exact h), if_neg h]

/-- The entries after a loss (R39). -/
theorem lose_entries (s : State) (b : BranchId) (st : BranchState) (e : EntryId) :
    (s.lose b st).entries[e] = s.entries[e].lose b := by
  simp [State.lose]

/-- The windows that a loss drains, as a condition on the window and the work of the branch (R17, R84). -/
theorem drainedByLoss_eq (s : State) (b : BranchId) (w : WindowId) : s.drainedByLoss b w = retiredByLoss s b w := by
  simp only [State.drainedByLoss, State.uncount, Window.drained, retiredByLoss, Vector.getElem_ofFn, Fin.getElem_fin]
  generalize s.workVia (fun c => decide (c = b)) w = g
  rw [Bool.eq_iff_iff]
  simp only [Bool.and_eq_true, decide_eq_true_eq, Nat.sub_eq_zero_iff_le]
  exact ⟨fun h => ⟨⟨h.2.1, h.1⟩, h.2.2⟩, fun h => ⟨h.1.2, h.1.1, h.2⟩⟩

/-- The long operations that a loss ends (R84). -/
theorem endedByLoss_eq (s : State) (b : BranchId) : s.endedByLoss b = lossCompletes s b := by
  funext op
  cases op with
  | retire w => simp only [State.endedByLoss, ended, lossCompletes, drainedByLoss_eq]
  | fence c => rfl
  | reset c => rfl

/-- The long operations after a loss: the retires it ends and a fence of its branch leave the list and are answered (R84). -/
theorem lose_completes (s : State) (b : BranchId) (st : BranchState) :
    (s.lose b st).pcl = (s.complete (lossCompletes s b)).pcl ∧ (s.lose b st).ctlQ = (s.complete (lossCompletes s b)).ctlQ := by
  simp only [State.lose, State.finish, ← endedByLoss_eq]
  exact complete_congr (fun _ => rfl) (by simp) (by simp)

/-- The windows after a loss: uncounted, and EMPTY where the loss ends a retire (R82, R84). -/
theorem lose_windows (s : State) (b : BranchId) (st : BranchState) (w : WindowId) :
    (s.lose b st).windows[w] =
      if retiredByLoss s b w then Window.blank
      else { s.windows[w] with inFlight := s.windows[w].inFlight - s.workVia (fun c => decide (c = b)) w } := by
  simp only [State.lose, State.finish, State.complete_windows, State.uncount, drainedByLoss_eq, Vector.getElem_ofFn, Fin.getElem_fin]

/-! ## The acceptance of a reset -/

/-- After a reset's first step no fence of the branch is pending (R97). -/
theorem abortFence_left {s : State} {b : BranchId} {r : PendingControl} (h : r ∈ (s.complete (abortFence b)).pcl) :
    r.op ≠ .fence b := fun e => by
  have := complete_left h
  simp [abortFence, e] at this

/-- What two completions leave of the list is what one of both leaves. -/
theorem complete_or_pcl (s : State) (f g : LongOp → Option ControlStatus) :
    (s.complete fun op => (f op).or (g op)).pcl = ((s.complete f).complete g).pcl := by
  simp only [State.complete, List.filter_filter]
  congr 1
  funext r
  cases f r.op <;> simp

/-- The two orders a reset's answers may have (R97, R183); the free value decides where they differ. -/
theorem resetAnswers_cases (s : State) (seq : BitVec 8) (b : BranchId) :
    s.resetAnswers seq b = ((s.complete (abortFence b)).complete (lossCompletes s b)).ctlQ ∨
    s.resetAnswers seq b = (s.complete fun op => (abortFence b op).or (lossCompletes s b op)).ctlQ := by
  simp only [State.resetAnswers, endedByLoss_eq]
  split
  · exact Or.inl rfl
  · exact Or.inr rfl

/-- What an accepted reset ends on a branch in service, and the two orders its answers may have (R97, R183). -/
theorem resetWork_completes {s : State} {seq : BitVec 8} {b : BranchId} (h : s.branches[b].state.inService = true) :
    let a := s.complete (abortFence b)
    (s.resetWork seq b).pcl = (a.complete (lossCompletes s b)).pcl ∧
    ((s.resetWork seq b).ctlQ = (a.complete (lossCompletes s b)).ctlQ ∨
      (s.resetWork seq b).ctlQ = (s.complete fun op => (abortFence b op).or (lossCompletes s b op)).ctlQ) := by
  simp only [State.resetWork, if_pos h, State.recordFault_pcl, State.recordFault_ctlQ]
  exact ⟨(lose_completes _ b .resetting).1, resetAnswers_cases s seq b⟩

end Sys2Proof.Machine
end

