-- ==== Sys2Proof/WellFormed.lean ====
section
/-! DEFINITION. When a command is an event of its row: a command that brings a frame brings a frame of the row's kind. A frame of
the right kind and the wrong size is well formed here: the port takes it as failing its check (R158). -/

namespace Sys2Proof

/-- The command is an event of its row. -/
def Instr.wellFormed : Instr → Bool
  | .intakeArrival f => f.isOneOf [1, 7]
  | .noticeAck f => f.isOneOf [4]
  | .trunkCreditReceived f => f.isOneOf [5]
  | .trunkUnexpectedFrame f => f.isNoneOf Frame.trunkKinds
  | .branchReply _ f => f.isOneOf [2]
  | .branchCredit _ f => f.isOneOf [5]
  | .branchNotice _ f => f.isOneOf [3]
  | .withdraw _ f => f.isOneOf [8]
  | .unitReturn _ f => f.isOneOf [9]
  | .branchUnexpectedFrame _ f => f.isNoneOf Frame.branchKinds
  | .powerOnReset | .leavePowerOnReset | .trunkPartnerAppears | .trunkTrainingComplete | .trunkCheckFailure
  | .trunkResetSequenceReceived | .trunkPartnerLost | .trunkFrameSent | .sendReply | .sendControlReply | .sendNotice
  | .sendCredit | .routeExamination | .badCommand | .loadWindow | .readWindow | .retireWindow | .loadLine | .readLine
  | .setTiming | .fenceBranch | .unfenceBranch | .resetBranch | .readStatus | .takeFaults | .clearCounters | .clearPath
  | .identify | .branchPartnerAppears _ | .branchTrainingComplete _ _ | .branchPartnerLost _ | .branchCheckFailure _
  | .branchResetSequenceReceived _ | .stallTimerExpiry _ | .partnerWaitExpiry _ | .branchFrameSent _ | .sendGrant _
  | .sendReclaim _ | .sendRelease _ | .issueNonPosted _ | .issuePosted _ | .requestDeadlineExpiry _ | .lingerExpiry _
  | .resendDeadlineExpiry _ | .selection | .drainComplete _ | .retireComplete _ => true

end Sys2Proof
end

