-- ==== Sys2Proof/Laws/PerInstr.lean ====
section
/-! SUPPORT. For each command: it is an event of its row exactly when the frame it brings, if it brings one, is of the row's kind. -/

namespace Sys2Proof.Laws.WellFormed

/-- A command that brings no frame is well formed; one that brings a frame is well formed exactly when the frame is not empty and its
kind is one that its row takes (R165, R167, R170, R172). -/
def Statement : Instr → Prop
  | .intakeArrival f => (Instr.intakeArrival f).wellFormed = true ↔ f ≠ [] ∧ (f.kind = 1 ∨ f.kind = 7)
  | .noticeAck f => (Instr.noticeAck f).wellFormed = true ↔ f ≠ [] ∧ f.kind = 4
  | .trunkCreditReceived f => (Instr.trunkCreditReceived f).wellFormed = true ↔ f ≠ [] ∧ f.kind = 5
  | .trunkUnexpectedFrame f => (Instr.trunkUnexpectedFrame f).wellFormed = true ↔
      f ≠ [] ∧ f.kind ≠ 1 ∧ f.kind ≠ 4 ∧ f.kind ≠ 5 ∧ f.kind ≠ 7
  | .branchReply b f => (Instr.branchReply b f).wellFormed = true ↔ f ≠ [] ∧ f.kind = 2
  | .branchCredit b f => (Instr.branchCredit b f).wellFormed = true ↔ f ≠ [] ∧ f.kind = 5
  | .branchNotice b f => (Instr.branchNotice b f).wellFormed = true ↔ f ≠ [] ∧ f.kind = 3
  | .withdraw b f => (Instr.withdraw b f).wellFormed = true ↔ f ≠ [] ∧ f.kind = 8
  | .unitReturn b f => (Instr.unitReturn b f).wellFormed = true ↔ f ≠ [] ∧ f.kind = 9
  | .branchUnexpectedFrame b f => (Instr.branchUnexpectedFrame b f).wellFormed = true ↔
      f ≠ [] ∧ f.kind ≠ 2 ∧ f.kind ≠ 3 ∧ f.kind ≠ 5 ∧ f.kind ≠ 8 ∧ f.kind ≠ 9
  | .powerOnReset => (Instr.powerOnReset).wellFormed = true
  | .leavePowerOnReset => (Instr.leavePowerOnReset).wellFormed = true
  | .trunkPartnerAppears => (Instr.trunkPartnerAppears).wellFormed = true
  | .trunkTrainingComplete => (Instr.trunkTrainingComplete).wellFormed = true
  | .trunkCheckFailure => (Instr.trunkCheckFailure).wellFormed = true
  | .trunkResetSequenceReceived => (Instr.trunkResetSequenceReceived).wellFormed = true
  | .trunkPartnerLost => (Instr.trunkPartnerLost).wellFormed = true
  | .trunkFrameSent => (Instr.trunkFrameSent).wellFormed = true
  | .sendReply => (Instr.sendReply).wellFormed = true
  | .sendControlReply => (Instr.sendControlReply).wellFormed = true
  | .sendNotice => (Instr.sendNotice).wellFormed = true
  | .sendCredit => (Instr.sendCredit).wellFormed = true
  | .routeExamination => (Instr.routeExamination).wellFormed = true
  | .badCommand => (Instr.badCommand).wellFormed = true
  | .loadWindow => (Instr.loadWindow).wellFormed = true
  | .readWindow => (Instr.readWindow).wellFormed = true
  | .retireWindow => (Instr.retireWindow).wellFormed = true
  | .loadLine => (Instr.loadLine).wellFormed = true
  | .readLine => (Instr.readLine).wellFormed = true
  | .setTiming => (Instr.setTiming).wellFormed = true
  | .fenceBranch => (Instr.fenceBranch).wellFormed = true
  | .unfenceBranch => (Instr.unfenceBranch).wellFormed = true
  | .resetBranch => (Instr.resetBranch).wellFormed = true
  | .readStatus => (Instr.readStatus).wellFormed = true
  | .takeFaults => (Instr.takeFaults).wellFormed = true
  | .clearCounters => (Instr.clearCounters).wellFormed = true
  | .clearPath => (Instr.clearPath).wellFormed = true
  | .identify => (Instr.identify).wellFormed = true
  | .branchPartnerAppears b => (Instr.branchPartnerAppears b).wellFormed = true
  | .branchTrainingComplete b capacity => (Instr.branchTrainingComplete b capacity).wellFormed = true
  | .branchPartnerLost b => (Instr.branchPartnerLost b).wellFormed = true
  | .branchCheckFailure b => (Instr.branchCheckFailure b).wellFormed = true
  | .branchResetSequenceReceived b => (Instr.branchResetSequenceReceived b).wellFormed = true
  | .stallTimerExpiry b => (Instr.stallTimerExpiry b).wellFormed = true
  | .partnerWaitExpiry b => (Instr.partnerWaitExpiry b).wellFormed = true
  | .branchFrameSent b => (Instr.branchFrameSent b).wellFormed = true
  | .sendGrant b => (Instr.sendGrant b).wellFormed = true
  | .sendReclaim b => (Instr.sendReclaim b).wellFormed = true
  | .sendRelease b => (Instr.sendRelease b).wellFormed = true
  | .issueNonPosted b => (Instr.issueNonPosted b).wellFormed = true
  | .issuePosted b => (Instr.issuePosted b).wellFormed = true
  | .requestDeadlineExpiry e => (Instr.requestDeadlineExpiry e).wellFormed = true
  | .lingerExpiry e => (Instr.lingerExpiry e).wellFormed = true
  | .resendDeadlineExpiry l => (Instr.resendDeadlineExpiry l).wellFormed = true
  | .selection => (Instr.selection).wellFormed = true
  | .drainComplete b => (Instr.drainComplete b).wellFormed = true
  | .retireComplete w => (Instr.retireComplete w).wellFormed = true

theorem powerOnReset : Statement (Instr.powerOnReset) := rfl

theorem leavePowerOnReset : Statement (Instr.leavePowerOnReset) := rfl

theorem trunkPartnerAppears : Statement (Instr.trunkPartnerAppears) := rfl

theorem trunkTrainingComplete : Statement (Instr.trunkTrainingComplete) := rfl

theorem trunkCheckFailure : Statement (Instr.trunkCheckFailure) := rfl

theorem trunkResetSequenceReceived : Statement (Instr.trunkResetSequenceReceived) := rfl

theorem trunkPartnerLost : Statement (Instr.trunkPartnerLost) := rfl

theorem intakeArrival (f : Frame) : Statement (Instr.intakeArrival f) := by
  cases f <;> simp [Statement, Instr.wellFormed, Frame.isOneOf]

theorem noticeAck (f : Frame) : Statement (Instr.noticeAck f) := by
  cases f <;> simp [Statement, Instr.wellFormed, Frame.isOneOf]

theorem trunkCreditReceived (f : Frame) : Statement (Instr.trunkCreditReceived f) := by
  cases f <;> simp [Statement, Instr.wellFormed, Frame.isOneOf]

theorem trunkUnexpectedFrame (f : Frame) : Statement (Instr.trunkUnexpectedFrame f) := by
  cases f <;> simp [Statement, Instr.wellFormed, Frame.isNoneOf, Frame.trunkKinds]

theorem trunkFrameSent : Statement (Instr.trunkFrameSent) := rfl

theorem sendReply : Statement (Instr.sendReply) := rfl

theorem sendControlReply : Statement (Instr.sendControlReply) := rfl

theorem sendNotice : Statement (Instr.sendNotice) := rfl

theorem sendCredit : Statement (Instr.sendCredit) := rfl

theorem routeExamination : Statement (Instr.routeExamination) := rfl

theorem badCommand : Statement (Instr.badCommand) := rfl

theorem loadWindow : Statement (Instr.loadWindow) := rfl

theorem readWindow : Statement (Instr.readWindow) := rfl

theorem retireWindow : Statement (Instr.retireWindow) := rfl

theorem loadLine : Statement (Instr.loadLine) := rfl

theorem readLine : Statement (Instr.readLine) := rfl

theorem setTiming : Statement (Instr.setTiming) := rfl

theorem fenceBranch : Statement (Instr.fenceBranch) := rfl

theorem unfenceBranch : Statement (Instr.unfenceBranch) := rfl

theorem resetBranch : Statement (Instr.resetBranch) := rfl

theorem readStatus : Statement (Instr.readStatus) := rfl

theorem takeFaults : Statement (Instr.takeFaults) := rfl

theorem clearCounters : Statement (Instr.clearCounters) := rfl

theorem clearPath : Statement (Instr.clearPath) := rfl

theorem identify : Statement (Instr.identify) := rfl

theorem branchPartnerAppears (b : BranchId) : Statement (Instr.branchPartnerAppears b) := rfl

theorem branchTrainingComplete (b : BranchId) (capacity : BitVec 4) : Statement (Instr.branchTrainingComplete b capacity) := rfl

theorem branchPartnerLost (b : BranchId) : Statement (Instr.branchPartnerLost b) := rfl

theorem branchCheckFailure (b : BranchId) : Statement (Instr.branchCheckFailure b) := rfl

theorem branchResetSequenceReceived (b : BranchId) : Statement (Instr.branchResetSequenceReceived b) := rfl

theorem stallTimerExpiry (b : BranchId) : Statement (Instr.stallTimerExpiry b) := rfl

theorem partnerWaitExpiry (b : BranchId) : Statement (Instr.partnerWaitExpiry b) := rfl

theorem branchReply (b : BranchId) (f : Frame) : Statement (Instr.branchReply b f) := by
  cases f <;> simp [Statement, Instr.wellFormed, Frame.isOneOf]

theorem branchCredit (b : BranchId) (f : Frame) : Statement (Instr.branchCredit b f) := by
  cases f <;> simp [Statement, Instr.wellFormed, Frame.isOneOf]

theorem branchNotice (b : BranchId) (f : Frame) : Statement (Instr.branchNotice b f) := by
  cases f <;> simp [Statement, Instr.wellFormed, Frame.isOneOf]

theorem withdraw (b : BranchId) (f : Frame) : Statement (Instr.withdraw b f) := by
  cases f <;> simp [Statement, Instr.wellFormed, Frame.isOneOf]

theorem unitReturn (b : BranchId) (f : Frame) : Statement (Instr.unitReturn b f) := by
  cases f <;> simp [Statement, Instr.wellFormed, Frame.isOneOf]

theorem branchUnexpectedFrame (b : BranchId) (f : Frame) : Statement (Instr.branchUnexpectedFrame b f) := by
  cases f <;> simp [Statement, Instr.wellFormed, Frame.isNoneOf, Frame.branchKinds]

theorem branchFrameSent (b : BranchId) : Statement (Instr.branchFrameSent b) := rfl

theorem sendGrant (b : BranchId) : Statement (Instr.sendGrant b) := rfl

theorem sendReclaim (b : BranchId) : Statement (Instr.sendReclaim b) := rfl

theorem sendRelease (b : BranchId) : Statement (Instr.sendRelease b) := rfl

theorem issueNonPosted (b : BranchId) : Statement (Instr.issueNonPosted b) := rfl

theorem issuePosted (b : BranchId) : Statement (Instr.issuePosted b) := rfl

theorem requestDeadlineExpiry (e : EntryId) : Statement (Instr.requestDeadlineExpiry e) := rfl

theorem lingerExpiry (e : EntryId) : Statement (Instr.lingerExpiry e) := rfl

theorem resendDeadlineExpiry (l : LineId) : Statement (Instr.resendDeadlineExpiry l) := rfl

theorem selection : Statement (Instr.selection) := rfl

theorem drainComplete (b : BranchId) : Statement (Instr.drainComplete b) := rfl

theorem retireComplete (w : WindowId) : Statement (Instr.retireComplete w) := rfl

end Sys2Proof.Laws.WellFormed
end

