-- ==== Sys2Proof/Laws/Refusals.lean ====
section
/-! SUPPORT. Which commands are refused: exactly those that are no event of their row. -/

namespace Sys2Proof.Machine

/-- A command that brings a frame is refused exactly when the frame is not one of its row. -/
theorem takeFrame_refused {isRow : Bool} {f : Frame} {checkFails good : State → State} {s : State} {r : Refusal} :
    takeFrame isRow f checkFails good s = .refused r ↔ isRow = false ∧ r = .illFormed := by
  cases isRow
  · exact Iff.intro (fun h => ⟨rfl, by cases h; rfl⟩) (fun h => by rw [h.2]; rfl)
  · exact Iff.intro (fun h => by cases h) (fun h => Bool.noConfusion h.1)

/-- A control command is never refused. -/
theorem takeControl_not_refused {isRow : Nat → Bool} {run : Control → State → State} {s : State} {r : Refusal} :
    takeControl isRow run s ≠ .refused r := by
  unfold takeControl
  repeat' split
  all_goals exact fun h => by cases h

/-- A command is refused exactly when it is ill-formed, and then as illFormed (log entry 9). -/
theorem exec_refused (c : Instr) (s : State) (r : Refusal) :
    exec c s = .refused r ↔ c.wellFormed = false ∧ r = .illFormed := by
  cases c <;> simp only [exec, Instr.wellFormed]
  case intakeArrival => exact takeFrame_refused
  case noticeAck => exact takeFrame_refused
  case trunkCreditReceived => exact takeFrame_refused
  case trunkUnexpectedFrame => exact takeFrame_refused
  case branchReply => exact takeFrame_refused
  case branchCredit => exact takeFrame_refused
  case branchNotice => exact takeFrame_refused
  case withdraw => exact takeFrame_refused
  case unitReturn => exact takeFrame_refused
  case branchUnexpectedFrame => exact takeFrame_refused
  all_goals refine iff_of_false ?_ (fun h => Bool.noConfusion h.1)
  all_goals first
    | exact takeControl_not_refused
    | exact fun h => by cases h
    | (first
        | unfold execSendReply
        | unfold execSendControlReply
        | unfold execSendNotice
        | unfold execSendCredit
        | unfold execRouteExamination
        | unfold execStallTimerExpiry
        | unfold execPartnerWaitExpiry
        | unfold execSendGrant
        | unfold execSendReclaim
        | unfold execSendRelease
        | unfold execIssueNonPosted
        | unfold execIssuePosted
        | unfold execRequestDeadlineExpiry
        | unfold execLingerExpiry
        | unfold execResendDeadlineExpiry
        | unfold execSelection
       try dsimp only
       repeat' split
       all_goals exact fun h => by cases h)

end Sys2Proof.Machine
end

