-- ==== Sys2Proof/Tests/Slice0.lean ====
section
/-! SUPPORT. Tests of the model on small states, in four parts: commands that are no event of their row; one or two steps of each
command with values worked out from the rules; the frames of 9.7 bit by bit; and, for each statement with hypotheses, states that
meet them (`witness_<statement>`), one for each of its clauses, where clauses meet. -/

namespace Sys2Proof.Tests

open Sys2Proof.Machine Sys2Proof.Safety

/-! ## Small states -/

/-- A part of the state a command leaves; none when it stops. -/
def left {α : Type} (f : State → α) : Result → Option α
  | .next t => some (f t)
  | .fault _ => none
  | .refused _ => none

/-- Why a command stopped: by fault, or as no event of its row. -/
def stop : Result → Option (Fault ⊕ Refusal)
  | .next _ => none
  | .fault x => some (.inl x)
  | .refused x => some (.inr x)

/-- A port in service with all its credit. -/
def port : Branch := { Branch.powerOn true with state := .active, capacity := 8, credit := 8 }

/-- The part with its trunk UP, every branch ACTIVE, and nothing under way. -/
def work : State :=
  { State.reset with
    porst := false, timeBase := 1000, trunk := { Trunk.powerOn true with state := .up }, branches := Vector.replicate 6 port }

/-- Branch 1 is as given. -/
def atPort (br : Branch) : State := { work with branches := work.branches.set 1 br }

/-- Branch 1 is in the given state. -/
def inState (st : BranchState) : State := atPort { port with state := st }

/-- Branch 1 is out of service in the given state, with the partner signal as given. -/
def outState (st : BranchState) (partner : Bool) : State := atPort { Branch.powerOn partner with state := st }

/-- 64 KiB at 0x40000000 for branch 1, target 0x2000, READ, WRITE and POSTED, class 1. -/
def window : Window := ⟨.live, 0x40000000, 0x10000, 1, 0x2000, ⟨true, true, false, true⟩, 1, 0⟩

/-- Window 0 is loaded as above with the given count. -/
def mapped (n : Nat) (s : State) : State := { s with windows := s.windows.set 0 { window with inFlight := n } }

/-- A READ of two words through window 0 under upstream tag 9. -/
def held : Held := { tag := 9, op := .read, branch := 1, window := 0, address := 0x2004, length := 2, hop := 3, cls := 1 }

/-- Entry 5 is as given. -/
def withEntry (x : Entry) (s : State) : State := { s with entries := s.entries.set 5 x }

/-- Line `n` is as given. -/
def withLine (n : LineId) (ln : Line) (s : State) : State := { s with lines := s.lines.set n ln }

/-- The intake holds one CONTROL frame of sequence 77. -/
def ctl (code : BitVec 8) (operands : List Word) (s : State) : State := { s with intake := [.control ⟨77, code, operands⟩] }

/-- The answer that the frame of `ctl` gets at once. -/
def answer (st : ControlStatus) (result : List Word) : List ControlReply := [⟨77, st, result, .immediate⟩]

/-- The intake holds one request. -/
def ask (r : Request) (s : State) : State := { s with intake := [.request r] }

/-- A READ of two words at 0x40000004 under upstream tag 9 with hop budget 4. -/
def read : Request := ⟨0, 9, 2, 4, 0x40000004, []⟩

/-- A POSTED-WRITE of one word at the same address. -/
def posted : Request := ⟨2, 9, 1, 4, 0x40000004, [0xAB]⟩

/-- A fence of branch 1, a retire of window 0 and a reset of branch 1 in the Pending Control List. -/
def fence : PendingControl := ⟨3, .fence 1, 10⟩
def retire : PendingControl := ⟨4, .retire 0, 20⟩
def resetting : PendingControl := ⟨5, .reset 1, 30⟩

/-- The posted item of `posted`. -/
def item : Item := .posted 0 0x2004 1 3 [0xAB]

/-- A Delivery List record. -/
def sent (n : LineId) (v : BitVec 8) (d : Time) : Delivery := ⟨n, v, .sent d, 0⟩

/-- A DELIVERED line with vector 0x21, release on. -/
def delivered (again : Bool) : Line := ⟨true, 2, 0x21, true, .delivered, again⟩

/-- The states of a line: enabled and of priority 1. -/
def waiting (v : BitVec 8) : Line := ⟨true, 1, v, false, .pending, false⟩

/-! ## Commands that are no event of their row -/

theorem test_ill_formed_intake : stop (exec (.intakeArrival [0x40000021]) work) = some (.inr .illFormed) := by decide
theorem test_ill_formed_ack : stop (exec (.noticeAck [0x50000000]) work) = some (.inr .illFormed) := by decide
theorem test_ill_formed_trunk_credit : stop (exec (.trunkCreditReceived [0x40000000]) work) = some (.inr .illFormed) := by decide
theorem test_ill_formed_trunk_unexpected : stop (exec (.trunkUnexpectedFrame [0x50000000]) work) = some (.inr .illFormed) := by
  decide
theorem test_ill_formed_reply : stop (exec (.branchReply 1 []) work) = some (.inr .illFormed) := by decide
theorem test_ill_formed_credit : stop (exec (.branchCredit 1 [0x30000000]) work) = some (.inr .illFormed) := by decide
theorem test_ill_formed_notice : stop (exec (.branchNotice 1 [0x50000000]) work) = some (.inr .illFormed) := by decide
theorem test_ill_formed_withdraw : stop (exec (.withdraw 1 [0x90000000]) work) = some (.inr .illFormed) := by decide
theorem test_ill_formed_return : stop (exec (.unitReturn 1 [0x80000000]) work) = some (.inr .illFormed) := by decide
theorem test_ill_formed_branch_unexpected :
    stop (exec (.branchUnexpectedFrame 1 [0x20000000]) work) = some (.inr .illFormed) := by decide
theorem test_ill_formed_terms :
    (Instr.noticeAck [0x50000000]).wellFormed = false ∧ (Instr.noticeAck [0x40000021]).wellFormed = true ∧
    (Instr.intakeArrival [0x70000000]).wellFormed = true ∧ (Instr.intakeArrival []).wellFormed = false ∧
    (Instr.branchUnexpectedFrame 0 [0xF0000000]).wellFormed = true := by decide

/-! ## The formats of 9.7, bit by bit -/

/-- A REQUEST: kind 0001, op 001, tag 001001, length 00010, hop 011, zeros. -/
theorem test_request_bits :
    Request.ofFrame [0b0001_001_001001_00010_011_00000000000, 0x40000004, 1, 2] = ⟨1, 9, 2, 3, 0x40000004, [1, 2]⟩ ∧
    Frame.kind [0b0001_001_001001_00010_011_00000000000, 0x40000004, 1, 2] = 1 := by decide

/-- A REPLY: kind 0010, status 0111, tag 000101. -/
theorem test_reply_bits :
    Frame.replyStatus [0b0010_0111_000101_000000000000000000] = 7 ∧
    Frame.replyTag [0b0010_0111_000101_000000000000000000] = 5 := by decide

/-- A CONTROL frame: kind 0111, sequence 01001101, command 00000011. -/
theorem test_control_bits :
    Control.ofFrame [0b0111_01001101_00000011_000000000000, 6] = ⟨77, 3, [6]⟩ := by decide

/-- A CONTROL-REPLY: kind 0110, sequence, status. -/
theorem test_control_reply_bits :
    TrunkFrame.words (.controlReply 77 .done [1]) = [0b0110_01001101_0000_0000000000000000, 1] := by decide

/-- One-word frames: a bit that a layout marks zero is ignored on receipt. -/
theorem test_one_word_bits :
    Frame.creditCount [0x5000000F] = 16 ∧ Frame.creditCount [0x5FFFFFF0] = 1 ∧ Frame.lineOrVector [0x30FFFF07] = 7 ∧
    TrunkFrame.words (.credit 16) = [0x5000000F] ∧ BranchFrame.words (.release 7) = [0x40000007] := by decide

/-- The sizes of R158. -/
theorem test_sizes :
    Frame.sizeOk [0x10000000] = false ∧ Frame.sizeOk [0x10000000, 0] = true ∧ Frame.sizeOk [0x50000000, 0] = false ∧
    Frame.sizeOk (List.replicate 32 0x20000000) = true ∧ Frame.sizeOk (List.replicate 33 0x20000000) = false := by decide

/-! ## Power and links -/

theorem test_power_on : left (fun t => (t.porst, t.timeBase, t.trunk, t.branches[1], t.windows[0])) (exec .powerOnReset (mapped 1 work)) =
    some (true, 0, Trunk.powerOn true, Branch.powerOn true, Window.blank) := by decide
theorem test_leave_power_on :
    left (fun t => (t.porst, t.trunk.state, t.branches[0].state, t.branches[1].state))
      (exec .leavePowerOnReset
        { State.reset with trunk := Trunk.powerOn true, branches := State.reset.branches.set 1 (Branch.powerOn true) }) =
    some (false, .training, .down, .training) := by decide
theorem test_trunk_appears : left (fun t => t.trunk) (exec .trunkPartnerAppears { State.reset with porst := false }) =
    some { Trunk.powerOn true with state := .training } := by decide
theorem test_trunk_trained :
    left (fun t => (t.trunk.state, t.acc, t.lines[55].state, t.trunkChoice))
      (exec .trunkTrainingComplete { work with trunk := { work.trunk with state := .training, restored := true } }) =
    some (.up, 16, .held, some .credit) := by decide
/-- A trunk reset: an ISSUED entry lingers for its class and a DELIVERED line is PENDING. -/
theorem test_trunk_reset :
    left (fun t => (t.trunk.resetSeqs, t.entries[5], t.lines[3].state, t.windows[0], t.counters.trunkResets))
      (exec .trunkCheckFailure (withLine 3 (delivered true) (withEntry (.issued held 9) (mapped 1 work)))) =
    some (1, .linger held 6000, .pending, window, 1) := by decide
theorem test_trunk_reset_received :
    left (fun t => (t.trunk.state, t.trunk.resetSeqs, t.branches[1].state)) (exec .trunkResetSequenceReceived (inState .draining)) =
    some (.training, 0, .fenced) := by decide
theorem test_trunk_lost : left (fun t => t.trunk) (exec .trunkPartnerLost work) =
    some { Trunk.powerOn false with restored := true } := by decide
theorem test_branch_appears :
    left (fun t => t.branches[1].state) (exec (.branchPartnerAppears 1) (outState .down false)) = some .training ∧
    left (fun t => t.branches[1].state)
      (exec (.branchPartnerAppears 1) (atPort { Branch.powerOn true with ignorePartner := true })) = some .down := by decide
theorem test_branch_trained :
    left (fun t => (t.branches[1].state, t.branches[1].credit, t.lines[50].state))
      (exec (.branchTrainingComplete 1 15) (outState .training true)) = some (.active, 8, .held) ∧
    left (fun t => t.branches[1].state) (exec (.branchTrainingComplete 1 0) (outState .training true)) = some .training := by decide
theorem test_branch_partner_lost :
    left (fun t => (t.branches[1].state, t.lines[49].state, t.faults))
      (exec (.branchPartnerLost 1) (atPort { port with queue := [item] })) =
    some (.down, .held,
      [{ kind := .branchLost, timestamp := 1000, branch := some 1, cause := some (.loss .signalLost), count := some 1 }]) := by decide
/-- A check failure loses the branch: its ISSUED entry is answered BRANCH-DOWN and its fence BRANCH-LOST. -/
theorem test_branch_check :
    left (fun t => (t.branches[1].state, t.branches[1].resetSeqs, t.entries[5], t.replyQ, t.ctlQ))
      (exec (.branchCheckFailure 1)
        { withEntry (.issued held 9) (mapped 1 (inState .draining)) with pcl := [fence] }) =
    some (.training, 1, .answered held false, [⟨9, .branchDown, [], .entry 5⟩], [⟨3, .branchLost, [], .completion⟩]) := by decide
theorem test_branch_reset_received :
    left (fun t => (t.branches[1].state, t.branches[1].resetSeqs)) (exec (.branchResetSequenceReceived 1) (inState .lent)) =
    some (.training, 0) := by decide
theorem test_stall :
    left (fun t => (t.branches[1].state, t.branches[1].queue, t.branches[1].resetSeqs))
      (exec (.stallTimerExpiry 1) (atPort { port with queue := [item], credit := 0, stallTimer := some 1000 })) =
    some (.training, [], 1) ∧
    stop (exec (.stallTimerExpiry 1) (atPort { port with queue := [item], credit := 0, stallTimer := some 1001 })) =
    some (.inl .notDue) := by decide
theorem test_partner_wait :
    left (fun t => (t.branches[1].state, t.branches[1].ignorePartner, t.ctlQ))
      (exec (.partnerWaitExpiry 1)
        { atPort { Branch.powerOn true with state := .resetting, partnerWait := some 1000 } with pcl := [resetting] }) =
    some (.down, true, [⟨5, .noPartner, [], .completion⟩]) := by decide

/-! ## Frames on the trunk -/

theorem test_intake :
    left (fun t => t.intake) (exec (.intakeArrival [0x7_4D_03_000, 6]) work) = some [.control ⟨77, 3, [6]⟩] ∧
    left (fun t => (t.intake, t.faults)) (exec (.intakeArrival [0x7_4D_03_000, 6]) { work with acc := 16 }) =
      some ([], [{ kind := .creditOverrun, timestamp := 1000 }]) := by decide
theorem test_ack :
    left (fun t => (t.deliveries, t.lines[10].state, t.branches[1].releaseMarks[2]))
      (exec (.noticeAck [0x40000021])
        { withLine 10 (delivered true) work with deliveries := [sent 10 0x21 0, sent 20 0x21 0] }) =
    some ([sent 20 0x21 0], .pending, true) := by decide
theorem test_stray_ack : left (fun t => t.counters.strayAcks) (exec (.noticeAck [0x40000021]) work) = some 1 := by decide
theorem test_trunk_credit : left (fun t => (t.acc, t.faults)) (exec (.trunkCreditReceived [0x5000000F]) work) = some (0, []) := by
  decide
theorem test_trunk_unexpected :
    left (fun t => t.faults) (exec (.trunkUnexpectedFrame [0x80000000]) work) =
    some [{ kind := .unexpectedFrame, timestamp := 1000, cause := some (.frameKind 8) }] := by decide

/-! ## Sends on the trunk -/

theorem test_trunk_sent : left (fun t => t.trunk.tx)
    (exec .trunkFrameSent { work with trunk := { work.trunk with tx := some (.notice 1) } }) = some none := by decide
theorem test_send_reply :
    left (fun t => (t.replyQ, t.entries[5], t.trunk.tx))
      (exec .sendReply { withEntry (.answered held true) work with replyQ := [⟨9, .timeout, [], .entry 5⟩] }) =
    some ([], .linger held 6000, some (.reply 9 .timeout [])) := by decide
theorem test_send_control_reply :
    left (fun t => (t.ctlQ, t.acc, t.trunk.pointer)) (exec .sendControlReply { work with ctlQ := answer .done [] }) =
    some ([], 1, .reply) := by decide
theorem test_send_notice :
    left (fun t => (t.deliveries, t.trunk.tx, t.counters.resends))
      (exec .sendNotice { work with deliveries := [sent 0 1 0, ⟨3, 0x21, .resendDue, 0⟩] }) =
    some ([sent 0 1 0, ⟨3, 0x21, .sent 3000, 1⟩], some (.notice 0x21), 1) := by decide
theorem test_send_credit : left (fun t => (t.acc, t.trunk.tx)) (exec .sendCredit { work with acc := 16 }) =
    some (0, some (.credit 16)) := by decide
theorem test_not_chosen :
    stop (exec .sendReply { work with acc := 1, replyQ := [⟨9, .ok, [], .refusal⟩] }) = some (.inl .notTrunkChoice) := by decide

/-! ## The intake head: requests -/

theorem test_route_read :
    left (fun t => (t.entries[0], t.branches[1].queue, t.windows[0].inFlight, t.acc)) (exec .routeExamination (ask read (mapped 0 work))) =
    some (.queued { held with hop := 3 } [], [.nonPosted 0], 1, 1) := by decide
theorem test_route_refused :
    left (fun t => (t.replyQ, t.acc)) (exec .routeExamination (ask { read with op := 3, length := 1, data := [1] } (mapped 0 work))) =
      some ([⟨9, .denied, [], .refusal⟩], 0) ∧
    left (fun t => (t.replyQ, t.acc, t.faults.map FaultRecord.cause)) (exec .routeExamination (ask posted work)) =
      some ([], 1, [some (.refusal .noRoute)]) := by decide

/-! ## The intake head: control frames -/

theorem test_bad_command : left (fun t => (t.ctlQ, t.intake)) (exec .badCommand (ctl 15 [1, 2] work)) =
    some (answer .badCommand [], []) := by decide
theorem test_load_window :
    left (fun t => (t.windows[0], t.ctlQ)) (exec .loadWindow (ctl 1 [0, 0x40000, 16, 1, 2, 11, 1] work)) =
      some (window, answer .done []) ∧
    left (fun t => t.ctlQ) (exec .loadWindow (ctl 1 [1, 0x4000F, 1, 1, 2, 11, 1] (mapped 0 work))) = some (answer .overlap []) := by
  decide
theorem test_read_window : left (fun t => t.ctlQ) (exec .readWindow (ctl 2 [0] (mapped 3 work))) =
    some (answer .done [1, 0x40000, 16, 1, 2, 11, 1, 3]) := by decide
theorem test_retire_window :
    left (fun t => (t.windows[0], t.ctlQ)) (exec .retireWindow (ctl 3 [0] (mapped 0 work))) = some (Window.blank, answer .done []) ∧
    left (fun t => (t.windows[0].state, t.ctlQ, t.pcl, t.acc)) (exec .retireWindow (ctl 3 [0] (mapped 1 work))) =
      some (.retiring, [], [⟨77, .retire 0, 1000⟩], 1) := by decide
theorem test_load_line : left (fun t => (t.lines[48], t.ctlQ)) (exec .loadLine (ctl 4 [48, 1, 2, 0x21, 1]
      (withLine 48 ⟨false, 0, 0, false, .held, false⟩ work))) =
    some (⟨true, 2, 0x21, false, .pending, false⟩, answer .done []) := by decide
theorem test_read_line :
    left (fun t => t.ctlQ) (exec .readLine (ctl 5 [3]
      { withLine 3 (delivered true) work with deliveries := [sent 0 1 0, sent 3 0x20 0] })) =
    some (answer .done [1, 2, 0x21, 1, 3, 1, 0x20, 0, 2]) := by decide
theorem test_set_timing :
    left (fun t => (t.timing, t.ctlQ)) (exec .setTiming (ctl 6 [1, 2, 3, 16777215, 100, 1000] work)) =
      some (⟨1, 2, 3, 16777215, 100, 1000⟩, answer .done []) ∧
    left (fun t => (t.timing, t.ctlQ)) (exec .setTiming (ctl 6 [0, 2, 3, 4, 100, 1000] work)) =
      some (Timing.defaults, answer .badOperand []) := by decide
theorem test_fence :
    left (fun t => (t.branches[1].state, t.branches[1].lendWanted, t.ctlQ)) (exec .fenceBranch (ctl 7 [1, 1] work)) =
      some (.lent, .granted, answer .done []) ∧
    left (fun t => (t.branches[1].state, t.pcl)) (exec .fenceBranch (ctl 7 [1, 0] (atPort { port with queue := [item] }))) =
      some (.draining, [⟨77, .fence 1, 1000⟩]) := by decide
theorem test_unfence :
    left (fun t => (t.branches[1].state, t.ctlQ)) (exec .unfenceBranch (ctl 8 [1] { inState .draining with pcl := [retire, fence] })) =
    some (.active, [⟨3, .aborted, [], .completion⟩, ⟨77, .done, [], .immediate⟩]) := by decide
theorem test_reset_branch :
    left (fun t => (t.branches[1].state, t.branches[1].partnerWait, t.pcl, t.ctlQ))
      (exec .resetBranch (ctl 9 [1] { inState .draining with pcl := [fence] })) =
    some (.resetting, some 51000, [⟨77, .reset 1, 1000⟩], [⟨3, .aborted, [], .completion⟩]) := by decide
/-- A DRAINING branch whose loss ends a retire that is older than its fence. -/
def olderRetire : State :=
  { atPort { port with state := .draining, queue := [item] } with
    windows := work.windows.set 0 { window with state := .retiring, inFlight := 1 }, pcl := [retire, fence] }

/-- There the two orders of a reset's answers differ, and either may be taken. -/
theorem test_reset_answers :
    olderRetire.resetAnswers 77 1 = [⟨3, .aborted, [], .completion⟩, ⟨4, .done, [], .completion⟩] ∨
    olderRetire.resetAnswers 77 1 = [⟨4, .done, [], .completion⟩, ⟨3, .aborted, [], .completion⟩] := by
  simp only [State.resetAnswers]
  split
  · exact Or.inl (by decide)
  · exact Or.inr (by decide)
theorem test_reset_older_retire :
    left (fun t => (t.pcl, t.windows[0], t.branches[1].state)) (exec .resetBranch (ctl 9 [1] olderRetire)) =
    some ([⟨77, .reset 1, 1000⟩], Window.blank, .resetting) := by decide
theorem test_read_status :
    left (fun t => t.ctlQ.map fun r => (r.status, r.result.length, r.result.take 6, r.result.drop 43))
      (exec .readStatus (ctl 10 [] { work with pcl := [fence] })) =
    some [(.done, 50, [2, 2, 8, 8, 0, 0], [0, 0, 0, 0, 0, 0, 1000])] := by decide
theorem test_take_faults :
    left (fun t => (t.faults.length, t.ctlQ)) (exec .takeFaults (ctl 11 [1]
      { work with faults := [{ kind := .badNotice, timestamp := 5, branch := some 2, count := some 9 },
        { kind := .creditOverrun, timestamp := 6 }] })) =
    some (1, answer .done [1, 4, 33, 5, 2, 9]) := by decide
theorem test_clear_counters :
    left (fun t => (t.counters, t.ctlQ)) (exec .clearCounters (ctl 12 [] { work with counters := ⟨1, 2, 3, 4, 5, 6⟩ })) =
    some (Counters.zero, answer .done []) := by decide
/-- CLEAR-PATH: the fence's DONE comes before its own. -/
theorem test_clear_path :
    left (fun t => (t.entries[5], t.replyQ, t.branches[1].state, t.ctlQ))
      (exec .clearPath (ctl 13 [] { withEntry (.issued held 9) (mapped 1 (inState .draining)) with pcl := [fence] })) =
    some (.answered held true, [⟨9, .aborted, [], .entry 5⟩], .fenced,
      [⟨3, .done, [], .completion⟩, ⟨77, .done, [], .immediate⟩]) := by decide
theorem test_identify : left (fun t => t.ctlQ) (exec .identify (ctl 14 [] work)) =
    some (answer .done [7, 6, 1, 6, 32, 48, 16, 56]) := by decide
theorem test_wrong_head : stop (exec .identify (ctl 13 [] work)) = some (.inl .notAtHead) := by decide

/-! ## Branch frames and sends -/

theorem test_matched_reply :
    left (fun t => (t.entries[5], t.windows[0].inFlight, t.replyQ))
      (exec (.branchReply 1 [0x20140000, 0xA, 0xB]) (withEntry (.issued held 9) (mapped 1 work))) =
    some (.answered held false, 0, [⟨9, .ok, [0xA, 0xB], .entry 5⟩]) := by decide
theorem test_stray_reply :
    left (fun t => t.faults) (exec (.branchReply 0 [0x20140000, 0xA, 0xB]) (withEntry (.issued held 9) (mapped 1 work))) =
    some [{ kind := .strayReply, timestamp := 1000, branch := some 0, downTag := some 5 }] := by decide
theorem test_branch_credit :
    left (fun t => (t.branches[1].credit, t.faults)) (exec (.branchCredit 1 [0x50000003]) (atPort { port with credit := 6 })) =
    some (8, [{ kind := .creditExcess, timestamp := 1000, branch := some 1, count := some 2 }]) := by decide
theorem test_branch_notice :
    left (fun t => t.lines[15].state) (exec (.branchNotice 1 [0x30000007]) work) = some .held ∧
    left (fun t => t.faults.map FaultRecord.count) (exec (.branchNotice 1 [0x30000008]) work) = some [some 8] := by decide
theorem test_withdraw : left (fun t => (t.branches[1].withdraw, t.lines[51].state)) (exec (.withdraw 1 [0x80000000]) work) =
    some (true, .held) := by decide
theorem test_return : left (fun t => (t.branches[1].state, t.lines[52].state)) (exec (.unitReturn 1 [0x90000000]) (inState .lent)) =
    some (.fenced, .held) := by decide
theorem test_branch_unexpected :
    left (fun t => t.faults) (exec (.branchUnexpectedFrame 1 [0x10000000, 0]) work) =
    some [{ kind := .unexpectedFrame, timestamp := 1000, branch := some 1, cause := some (.frameKind 1) }] := by decide
theorem test_branch_sent : left (fun t => t.branches[1].tx) (exec (.branchFrameSent 1) (atPort { port with tx := some .grant })) =
    some none := by decide
theorem test_grant : left (fun t => (t.branches[1].tx, t.branches[1].lendTold))
      (exec (.sendGrant 1) (atPort { port with state := .lent, lendWanted := .granted })) = some (some .grant, .granted) := by decide
theorem test_reclaim : left (fun t => (t.branches[1].tx, t.branches[1].lendTold))
      (exec (.sendReclaim 1) (atPort { port with lendTold := .granted })) = some (some .reclaim, .notGranted) := by decide
theorem test_release : left (fun t => (t.branches[1].tx, t.branches[1].releaseMarks[7]))
      (exec (.sendRelease 1) (atPort { port with releaseMarks := port.releaseMarks.set 7 true })) =
    some (some (.release 7), false) := by decide
theorem test_issue :
    left (fun t => (t.entries[5], t.branches[1].credit, t.branches[1].tx))
      (exec (.issueNonPosted 1) (withEntry (.queued held []) (mapped 1 (atPort { port with queue := [.nonPosted 5] })))) =
    some (.issued held 6000, 7, some (.request .read 5 0x2004 2 3 [])) := by decide
/-- The issue of the last work of a DRAINING branch and of a RETIRING window ends both. -/
theorem test_issue_posted :
    left (fun t => (t.branches[1].state, t.windows[0].state, t.ctlQ))
      (exec (.issuePosted 1)
        { atPort { port with queue := [item], state := .draining } with
          windows := work.windows.set 0 { window with state := .retiring, inFlight := 1 }, pcl := [retire, fence] }) =
    some (.fenced, .empty, [⟨4, .done, [], .completion⟩, ⟨3, .done, [], .completion⟩]) := by decide

/-! ## Deadlines, notices, completions, steps -/

theorem test_request_expiry :
    left (fun t => (t.entries[5], t.replyQ)) (exec (.requestDeadlineExpiry 5) (withEntry (.issued held 1000) (mapped 1 work))) =
      some (.answered held true, [⟨9, .timeout, [], .entry 5⟩]) ∧
    stop (exec (.requestDeadlineExpiry 5) (withEntry (.issued held 1001) work)) = some (.inl .notDue) := by decide
theorem test_linger_expiry : left (fun t => t.entries[5]) (exec (.lingerExpiry 5) (withEntry (.linger held 1000) work)) =
    some .free := by decide
theorem test_resend_expiry :
    left (fun t => t.deliveries) (exec (.resendDeadlineExpiry 3) { work with deliveries := [sent 3 0x21 1000] }) =
    some [⟨3, 0x21, .resendDue, 0⟩] := by decide
theorem test_selection :
    left (fun t => t.deliveries)
      (exec .selection (withLine 50 { waiting 9 with priority := 7 } (withLine 3 (waiting 1) (withLine 20 (waiting 2) work)))) =
    some [⟨3, 1, .firstDue, 0⟩] := by decide
theorem test_drain_complete :
    left (fun t => (t.branches[1].state, t.ctlQ)) (exec (.drainComplete 1) { inState .draining with pcl := [fence] }) =
    some (.fenced, [⟨3, .done, [], .completion⟩]) := by decide
theorem test_retire_complete :
    left (fun t => (t.windows[0], t.ctlQ)) (exec (.retireComplete 0)
      { work with windows := work.windows.set 0 { window with state := .retiring }, pcl := [retire] }) =
    some (Window.blank, [⟨4, .done, [], .completion⟩]) := by decide
theorem test_step :
    left (fun t => (t.pending, t.ctlQ)) (step { ctl 14 [] work with pending := [.identify, .selection] }) =
      some ([.selection], answer .done [7, 6, 1, 6, 32, 48, 16, 56]) ∧
    left (fun t => t.timeBase) (step { work with timeBase := 0xFFFFFFFF }) = some 0 := by decide

/-! ## Witnesses: states that meet the hypotheses of the statements, a state for each clause -/

theorem witness_StepTakesFront : ({ work with pending := [.identify, .selection] } : State).pending = .identify :: [.selection] := by
  decide

theorem witness_IdleStepIsOneMicrosecond : State.reset.pending = [] ∧ State.reset.porst = true ∧ work.pending = [] ∧ work.porst = false := by
  decide

theorem witness_LeavingPowerOnReset : State.reset.porst = true := by decide

/-- The trunk in DOWN out of power-on reset and in it, in UP, and in TRAINING; a frame of each kind. -/
theorem witness_TrunkLinkOutOfService :
    ({ State.reset with porst := false } : State).trunk.state = .down ∧ State.reset.porst = true ∧ work.trunk.state ≠ .down ∧
    ({ work with trunk := { work.trunk with state := .training } } : State).trunk.state = .training ∧
    Frame.isOneOf [0x10000000, 0] [1, 7] = true ∧ Frame.sizeOk [0x10000000, 0] = true ∧
    Frame.isOneOf [0x40000000] [4] = true ∧ Frame.sizeOk [0x40000000] = true ∧
    Frame.isNoneOf [0xF0000000] Frame.trunkKinds = true ∧ Frame.sizeOk [0xF0000000] = true := by decide

/-- A trained trunk with the restored mark set and clear, and a line that waits. -/
def training (restored : Bool) : State :=
  withLine 3 (waiting 1) { work with trunk := { work.trunk with state := .training, restored := restored } }

theorem witness_TrunkTrainingCompletes :
    (training true).trunk.state = .training ∧ (training true).trunk.restored = true ∧ (training false).trunk.restored = false ∧
    (training true).trunk.tx = none ∧ (training true).ctlQ = [] ∧ (training true).deliveries = [] ∧
    (training true).lines[3].state = .pending := by decide

theorem witness_TrunkResets :
    Instr.trunkCheckFailure ∈ trunkResetCauses ∧ Instr.trunkResetSequenceReceived ∈ trunkResetCauses ∧
    Instr.trunkPartnerLost ∈ trunkResetCauses ∧ work.trunk.state = .up := by decide

/-- 15 credits held, and 16. -/
theorem witness_IntakeArrival :
    Frame.isOneOf [0x10000000, 0] [1, 7] = true ∧ Frame.isOneOf [0x70000000] [1, 7] = true ∧
    Frame.sizeOk [0x10000000, 0] = true ∧ Frame.sizeOk [0x70000000] = true ∧ work.trunk.state = .up ∧
    ({ work with acc := 15 } : State).creditsHeld < 16 ∧ 16 ≤ ({ work with acc := 16 } : State).creditsHeld := by decide

/-- Two deliveries with one vector, of branch line 47 and of internal line 48; and no delivery with the vector. -/
def acked : State :=
  withLine 47 (delivered true) (withLine 48 (delivered false)
    { work with deliveries := [sent 20 1 0, sent 47 0x21 0, sent 48 0x21 0] })

theorem portsOk_work : PortsOk work := by unfold PortsOk; decide

theorem witness_NoticeAckMatches :
    PortsOk acked ∧ Frame.isOneOf [0x40000021] [4] = true ∧ Frame.sizeOk [0x40000021] = true ∧ acked.trunk.state = .up ∧
    acked.deliveries = [sent 20 1 0] ++ sent 47 0x21 0 :: [sent 48 0x21 0] ∧
    (sent 47 0x21 0).vector = Frame.lineOrVector [0x40000021] ∧
    (∀ x ∈ [sent 20 1 0], x.vector ≠ Frame.lineOrVector [0x40000021]) ∧
    (sent 47 0x21 0).line = branchLine 5 7 ∧ 48 ≤ (sent 48 0x21 0).line.val ∧
    ∀ x ∈ acked.deliveries, x.vector ≠ Frame.lineOrVector [0x40000022] := ⟨portsOk_work, by decide⟩

theorem witness_CreditAndUnexpectedFrames :
    Frame.isOneOf [0x5000000F] [5] = true ∧ Frame.sizeOk [0x5000000F] = true ∧
    Frame.isNoneOf [0x20000000] Frame.trunkKinds = true ∧ Frame.isNoneOf [0] Frame.trunkKinds = true ∧
    Frame.isNoneOf [0x10000000, 0] Frame.branchKinds = true ∧ Frame.isNoneOf [0xF0000000] Frame.branchKinds = true ∧
    Frame.sizeOk [0x10000000, 0] = true ∧ Frame.sizeOk [0x20000000] = true ∧ Frame.sizeOk [0] = true ∧
    work.trunk.state = .up ∧ (training true).trunk.state = .training ∧
    (inState .lent).branches[1].state.inService = true ∧ (outState .resetting true).branches[1].state = .resetting := by decide

/-- A frame of the wrong size of each kind. -/
theorem witness_BadSizeIsCheckFailure :
    (∀ f ∈ ([[0x10000000], [0x40000000, 0], [0x50000000, 0], [0x30000000, 0], [0x80000000, 0], [0x90000000, 0]] : List Frame),
      Frame.sizeOk f = false) ∧
    Frame.isOneOf [0x10000000] [1, 7] = true ∧ Frame.isOneOf [0x40000000, 0] [4] = true ∧
    Frame.isOneOf [0x50000000, 0] [5] = true ∧ Frame.isNoneOf [0x30000000, 0] Frame.trunkKinds = true ∧
    Frame.sizeOk (List.replicate 33 0x20000000) = false ∧ Frame.isOneOf (List.replicate 33 0x20000000) [2] = true ∧
    Frame.isOneOf [0x30000000, 0] [3] = true ∧ Frame.isOneOf [0x80000000, 0] [8] = true ∧
    Frame.isOneOf [0x90000000, 0] [9] = true ∧ Frame.isNoneOf [0x10000000] Frame.branchKinds = true := by decide

theorem witness_FrameSentFreesTransmitter : TimerOk work.branches[1] := by unfold TimerOk; decide

/-- A refusal and both kinds of ANSWERED entry at the head of the Reply Queue, both kinds of control reply, a credit. -/
theorem witness_SendsOfAnswersAndCredit :
    ({ work with replyQ := [⟨9, .ok, [], .refusal⟩] } : State).trunkChoice = some .reply ∧
    (withEntry (.answered held true) work).entries[5] = .answered held true ∧
    (withEntry (.answered held false) work).entries[5] = .answered held false ∧
    (withEntry (.answered held true) { work with replyQ := [⟨9, .ok, [], .entry 5⟩] }).trunkChoice = some .reply ∧
    ({ work with ctlQ := answer .done [] } : State).trunkChoice = some .control ∧
    ({ work with ctlQ := [⟨3, .done, [], .completion⟩] } : State).trunkChoice = some .control ∧
    ({ work with acc := 1 } : State).trunkChoice = some .credit := by decide

/-- A resend with its own count held at 65535 and the part's counter at 65534 and 65535, and a first send. -/
theorem witness_SendOfNotice :
    ({ work with deliveries := [sent 0 1 0, ⟨3, 0x21, .resendDue, 65535⟩] } : State).trunkChoice = some .notice ∧
    ({ work with deliveries := [⟨3, 0x21, .firstDue, 0⟩] } : State).trunkChoice = some .notice ∧
    (∀ x ∈ [sent 0 1 0], x.send = .sent 0) ∧ Delivery.due ⟨3, 0x21, .resendDue, 65535⟩ = true ∧
    [65534, 65535].map (fun n => left (fun t => (t.counters.resends, t.lines[54].state))
      (exec .sendNotice { work with counters := { work.counters with resends := n }, deliveries := [⟨3, 0x21, .resendDue, 4⟩] })) =
      [some (65535, .held), some (65535, .idle)] := by decide

/-- The clauses of the choice: not UP, a COMPLETION, a credit, and the rotation. -/
theorem witness_ArbiterOrder :
    (training true).trunk.state ≠ .up ∧ work.trunk.state = .up ∧ work.trunk.tx = none ∧
    (∃ r ∈ ({ work with ctlQ := [⟨3, .done, [], .completion⟩] } : State).ctlQ, r.kind = .completion) ∧
    (∀ r ∈ ({ work with ctlQ := answer .done [] } : State).ctlQ, r.kind = .immediate) ∧
    0 < ({ work with acc := 1 } : State).acc ∧ work.acc = 0 ∧
    ({ work with acc := 1 } : State).trunkChoice ≠ some .control ∧ work.trunkChoice ≠ some .credit ∧
    work.trunkChoice ≠ some .reply ∧ work.trunkChoice ≠ some .notice := by decide

theorem windowsOk_mapped : WindowsOk (mapped 0 work) := by unfold WindowsOk WindowOk; decide +kernel

/-- The last two words of window 0 and one word too many; the four rights; the hop budget; every kind of branch state; room and none. -/
theorem witness_ExaminationOrder :
    WindowsOk (mapped 0 work) ∧ GoodRequest read ∧ ¬GoodRequest { read with length := 17 } ∧ ¬GoodRequest { read with op := 4 } ∧
    Contains (mapped 0 work).windows[0] read.address ∧ ¬Contains (mapped 0 work).windows[0] 0x40010000 ∧
    ¬Contains (mapped 0 work).windows[1] 0 ∧
    ({ read with address := 0x4000FFF8 } : Request).address.toNat + 4 * read.length.toNat - 1 = window.base + window.size - 1 ∧
    window.base + window.size - 1 < ({ read with address := 0x4000FFFC } : Request).address.toNat + 4 * read.length.toNat - 1 ∧
    (mapped 0 work).windows[0].rights.read = true ∧ (mapped 0 work).windows[0].rights.swap = false ∧
    (mapped 0 (inState .fenced)).branches[1].state = .fenced ∧ (mapped 0 (outState .training true)).branches[1].state = .training ∧
    (mapped 0 work).branches[1].state = .active ∧ (mapped 0 work).branches[1].queue.length < 8 ∧
    (mapped 0 work).entries[0] = .free ∧
    8 ≤ (mapped 8 (atPort { port with queue := List.replicate 8 item })).branches[1].queue.length := by
  refine ⟨windowsOk_mapped, ?_⟩
  unfold GoodRequest Contains
  decide

/-- Every verdict on a request at the head. -/
theorem witness_RefusalsAndWaits :
    (ask read work).intake = .request read :: [] ∧ (ask read work).examine read = .refuse .noRoute none ∧
    (ask posted (mapped 0 (inState .lent))).examine posted = .refuse .fenced (some 1) ∧
    (ask read (mapped 8 (atPort { port with queue := List.replicate 8 item }))).examine read = .wait := by decide

theorem witness_DuplicateDiscarded :
    GoodRequest read ∧ Duplicate (ask read (withEntry (.answered held false) work)) read ∧ ¬Duplicate (ask read work) posted := by
  refine ⟨by unfold GoodRequest; decide, ⟨by decide, 5, held, by decide⟩, fun h => h.1 rfl⟩

theorem witness_Routing :
    (ask read (mapped 0 work)).examine read = .route 0 ∧ Op.ofCode read.op = some NpOp.read.toOp ∧
    (ask read (mapped 0 work)).entries[0] = .free ∧ (ask posted (mapped 0 work)).examine posted = .route 0 ∧ posted.op = 2 := by
  decide

theorem witness_BadCommandRefused :
    (BitVec.toNat (0 : BitVec 8) = 0) ∧ 15 ≤ (15 : BitVec 8).toNat ∧ 15 ≤ (255 : BitVec 8).toNat ∧
    (ctl 15 [] work).intake = .control ⟨77, 15, []⟩ :: [] := by decide

/-- For each command, operands just out of range or one too many. -/
theorem witness_BadOperandsRefused :
    ¬OperandsInRange 1 [0, 1, 1048576, 0, 0, 0, 0] ∧ ¬OperandsInRange 2 [32] ∧ ¬OperandsInRange 3 [0, 0] ∧
    ¬OperandsInRange 4 [56, 0, 0, 0, 0] ∧ ¬OperandsInRange 5 [56] ∧ ¬OperandsInRange 6 [1, 1, 1, 16777216, 100, 1000] ∧
    ¬OperandsInRange 7 [5, 2] ∧ ¬OperandsInRange 8 [6] ∧ ¬OperandsInRange 9 [] ∧ ¬OperandsInRange 10 [0] ∧
    ¬OperandsInRange 11 [9] ∧ ¬OperandsInRange 11 [0] ∧ ¬OperandsInRange 12 [0] ∧ ¬OperandsInRange 13 [0] ∧
    ¬OperandsInRange 14 [0] :=
  ⟨fun h => absurd h.2.2.2.2.1 (by decide), fun h => absurd h (by decide : ¬(32 : Word).toNat ≤ 31), id,
   fun h => absurd h.1 (by decide), fun h => absurd h (by decide : ¬(56 : Word).toNat ≤ 55),
   fun h => absurd (h.1 16777216 (by simp)).2 (by decide), fun h => absurd h.2 (by decide),
   fun h => absurd h (by decide : ¬(6 : Word).toNat ≤ 5), id, id, fun h => absurd h.2 (by decide), fun h => absurd h.1 (by decide),
   id, id, id⟩

/-- Windows of the greatest size and at the end of the space; an index in use, an overlap, and neither. -/
theorem witness_LoadWindowResult :
    OperandsInRange 1 [word 31, word 0, word 1048576, word 5, word 0, word 15, word 3] ∧
    OperandsInRange 1 [word 0, word 1048575, word 1, word 0, word 1048575, word 0, word 0] ∧
    (mapped 0 work).windows[0].state ≠ .empty ∧ (mapped 0 work).windows[31].state = .empty ∧
    (∃ v : WindowId, (mapped 0 work).windows[v].state ≠ .empty ∧ (mapped 0 work).windows[v].base < (0x4000F + 1) * 4096 ∧
      0x4000F * 4096 < (mapped 0 work).windows[v].base + (mapped 0 work).windows[v].size) ∧
    ¬∃ v : WindowId, (mapped 0 work).windows[v].state ≠ .empty ∧ (mapped 0 work).windows[v].base < (0x40010 + 1) * 4096 ∧
      0x40010 * 4096 < (mapped 0 work).windows[v].base + (mapped 0 work).windows[v].size :=
  ⟨⟨by decide, by decide, by decide, by decide, by decide, by decide, by decide, by decide, by decide, by decide⟩,
   ⟨by decide, by decide, by decide, by decide, by decide, by decide, by decide, by decide, by decide, by decide⟩,
   by decide, by decide, by decide +kernel, by decide +kernel⟩

theorem witness_ReadWindowAndLine :
    (ctl 2 [word 31] work).intake = .control ⟨77, 2, [word 31]⟩ :: [] ∧ work.lines[55].state ≠ .delivered ∧ acked.lines[48].state = .delivered ∧
    acked.deliveries = [sent 20 1 0, sent 47 0x21 0] ++ sent 48 0x21 0 :: [] ∧
    ∀ x ∈ [sent 20 1 0, sent 47 0x21 0], x.line ≠ 48 := by decide

theorem witness_NoOperandCommands :
    (ctl 10 [] work).intake = .control ⟨77, 10, []⟩ :: [] ∧ (ctl 12 [] work).intake = .control ⟨77, 12, []⟩ :: [] ∧
    (ctl 13 [] work).intake = .control ⟨77, 13, []⟩ :: [] ∧ (ctl 14 [] work).intake = .control ⟨77, 14, []⟩ :: [] := by decide

/-- A full Pending Control List. -/
def full (s : State) : State := { s with pcl := [retire, resetting, resetting, resetting] }

theorem witness_RetireWindowResult :
    (ctl 3 [word 31] work).intake = .control ⟨77, 3, [word 31]⟩ :: [] ∧ work.windows[31].state = .empty ∧
    (mapped 0 work).windows[0].state = .live ∧ (mapped 0 work).windows[0].inFlight = 0 ∧ 0 < (mapped 1 work).windows[0].inFlight ∧
    ({ work with windows := work.windows.set 0 { window with state := .retiring } } : State).windows[0].state = .retiring ∧
    4 ≤ (full (mapped 1 work)).pcl.length ∧ (mapped 1 work).pcl.length < 4 := by decide

theorem witness_LoadLineResult :
    (ctl 4 [word 47, flagWord true, word (7 : BitVec 3).toNat, word (255 : BitVec 8).toNat, flagWord true] work).intake =
      .control ⟨77, 4, [word 47, flagWord true, word (7 : BitVec 3).toNat, word (255 : BitVec 8).toNat, flagWord true]⟩ :: [] := by decide

theorem timing_range (c r st : Word) (h : 1 ≤ c.toNat ∧ c.toNat ≤ 16777215) (h1 : 100 ≤ r.toNat) (h2 : r.toNat ≤ 1000000)
    (h3 : 1000 ≤ st.toNat) (h4 : st.toNat ≤ 16000000) : OperandsInRange 6 [c, c, c, c, r, st] :=
  ⟨fun x hx => by simp only [List.mem_cons, List.not_mem_nil, or_false, or_self] at hx; subst hx; exact h, h1, h2, h3, h4⟩

theorem witness_SetTiming :
    OperandsInRange 6 [1, 1, 1, 1, 100, 1000] ∧
    OperandsInRange 6 [16777215, 16777215, 16777215, 16777215, 1000000, 16000000] :=
  ⟨timing_range _ _ _ (by decide) (by decide) (by decide) (by decide) (by decide),
   timing_range _ _ _ (by decide) (by decide) (by decide) (by decide) (by decide)⟩

/-- Fewer records than asked for, and more. -/
theorem witness_TakeFaultsResult :
    ([] : List FaultRecord) = [] ++ [] ∧ ([] : List FaultRecord).length = min 8 ([] : List FaultRecord).length ∧
    ([{ kind := .badNotice, timestamp := 5 }, { kind := .strayReply, timestamp := 6 }] : List FaultRecord) =
      [{ kind := .badNotice, timestamp := 5 }] ++ [{ kind := .strayReply, timestamp := 6 }] ∧
    ([{ kind := .badNotice, timestamp := 5 }] : List FaultRecord).length = min 1 2 := by decide

theorem portsOk_port (br : Branch) (h1 : br.queue.length ≤ 8) (h2 : br.credit ≤ br.capacity) (h3 : br.capacity ≤ 8)
    (h4 : br.state.inService = true → 1 ≤ br.capacity) (h5 : br.stallTimer.isSome = br.stalled) : PortsOk (atPort br) := by
  intro b
  by_cases h : b = 1
  · subst h; exact ⟨h1, h2, h3, h4, h5⟩
  · have n : (1 : Nat) ≠ b.val := fun x => h (Fin.ext x.symm)
    have e : (atPort br).branches[b] = work.branches[b] := by simp [atPort, n]
    rw [e]; exact portsOk_work b

/-- Every branch state; work in the queue, work in an entry, and none. -/
theorem witness_FenceBranchResult :
    PortsOk (inState .fenced) ∧ PortsOk (atPort { port with queue := [item] }) ∧
    (inState .resetting).branches[1].state = .resetting ∧ (inState .draining).branches[1].state = .draining ∧
    (inState .lent).branches[1].state = .lent ∧ (inState .fenced).branches[1].state = .fenced ∧ work.branches[1].state = .active ∧
    work.branches[1].queue = [] ∧ (atPort { port with queue := [item] }).branches[1].queue ≠ [] ∧
    (withEntry (.issued held 0) work).entries[5] = .issued held 0 ∧ held.branch = 1 ∧ 4 ≤ (full work).pcl.length ∧ work.pcl.length < 4 :=
  ⟨portsOk_port _ (by decide) (by decide) (by decide) (by decide) (by decide),
   portsOk_port _ (by decide) (by decide) (by decide) (by decide) (by decide), by decide⟩

theorem witness_UnfenceBranchResult :
    PortsOk (inState .lent) ∧ (inState .down).branches[1].state = .down ∧ work.branches[1].state = .active ∧
    (inState .draining).branches[1].state = .draining ∧ (inState .lent).branches[1].state = .lent ∧
    (inState .lent).branches[1].queue = [] ∧ (inState .fenced).branches[1].state = .fenced :=
  ⟨portsOk_port _ (by decide) (by decide) (by decide) (by decide) (by decide), by decide⟩

/-- RESETTING; a full list without and with a fence of the branch; DOWN; in service. -/
theorem witness_ResetBranchResult :
    (outState .resetting true).branches[1].state = .resetting ∧ 4 ≤ (full work).pcl.length ∧ (∀ r ∈ (full work).pcl, r.op ≠ .fence 1) ∧
    (outState .down false).branches[1].state = .down ∧ (outState .training true).branches[1].state = .training ∧
    work.pcl.length < 4 ∧ (inState .draining).branches[1].state.inService = true ∧
    ∃ r ∈ ({ inState .draining with pcl := [fence, retire, resetting, resetting] } : State).pcl, r.op = .fence 1 := by decide

/-- DOWN with and without the ignore-partner mark, RESETTING without the signal, and DOWN in power-on reset. -/
theorem witness_BranchLinkOutOfService :
    PortsOk (outState .down false) ∧ PortsOk (outState .resetting false) ∧ PortsOk { outState .down false with porst := true } ∧
    work.porst = false ∧ (outState .down false).branches[1].state = .down ∧ (outState .down false).branches[1].ignorePartner = false ∧
    (atPort { Branch.powerOn true with ignorePartner := true }).branches[1].ignorePartner = true ∧
    (outState .resetting false).branches[1].state = .resetting ∧ (outState .resetting false).branches[1].partner = false ∧
    1 ≤ (15 : BitVec 4).toNat ∧ (outState .resetting true).branches[1].state.inService = false ∧
    Frame.isOneOf [0x20000000] [2] = true ∧ Frame.sizeOk [0x20000000] = true :=
  have h (st : BranchState) (h1 : st.inService = false) (h2 : st.issues = false) : PortsOk (outState st false) :=
    portsOk_port _ (by simp [Branch.powerOn]) (by simp [Branch.powerOn]) (by simp [Branch.powerOn]) (by simp [h1])
      (by simp [Branch.powerOn, Branch.stalled])
  ⟨h .down rfl rfl, h .resetting rfl rfl, h .down rfl rfl, by decide⟩

/-- Capacities 0, 1 and 15. -/
theorem witness_BranchTrainingCompletes :
    (0 : BitVec 4) = 0 ∧ 1 ≤ (1 : BitVec 4).toNat ∧ 8 < (15 : BitVec 4).toNat ∧ (outState .training true).branches[1].state = .training ∧
    (outState .training true).branches[1].partner = true ∧ (outState .training true).branches[1].queue = [] := by decide

/-- A branch that is reset, its wait at 1000 µs, which is reached, and at 1001 µs, which is not. -/
def resettingAt (deadline : Time) : State := atPort { Branch.powerOn true with state := .resetting, partnerWait := some deadline }

theorem witness_ResetEnds :
    PortsOk (resettingAt 1000) ∧ (resettingAt 1000).branches[1].state = .resetting ∧ (resettingAt 1000).branches[1].partner = true ∧
    (resettingAt 1000).branches[1].queue = [] ∧ (resettingAt 1000).branches[1].partnerWait = some 1000 ∧
    reached 1000 work.timeBase = true ∧ reached 1001 work.timeBase = false :=
  ⟨portsOk_port _ (by decide) (by decide) (by decide) (by decide) (by decide), by decide⟩

/-- A stalled branch. -/
def stalled : State := atPort { port with queue := [item], credit := 0, stallTimer := some 1000 }

theorem witness_BranchLoss :
    (inState .active).branches[1].state.inService = true ∧ (inState .lent).branches[1].state.inService = true ∧
    stalled.branches[1].stallTimer = some 1000 ∧ reached 1000 stalled.timeBase = true := by decide

/-- Two words for a READ of two; one; status codes 0, 1, 10 and 11. -/
theorem witness_MatchedReply :
    Frame.isOneOf [0x20140000, 1, 2] [2] = true ∧ Frame.sizeOk [0x20140000, 1, 2] = true ∧
    (Frame.replyTag [0x20140000, 1, 2]).toNat = (5 : EntryId).val ∧ work.branches[1].state.inService = true ∧
    (withEntry (.issued held 9) work).entries[5] = .issued held 9 ∧ held.branch = 1 ∧
    Frame.replyStatus [0x20140000, 1, 2] = 0 ∧ (Frame.replyData [0x20140000, 1, 2]).length = held.length.toNat ∧
    (Frame.replyData [0x20140000, 1]).length ≠ held.length.toNat ∧
    (Frame.replyStatus [0x21140000]).toNat = ReplyStatus.noRoute.code ∧ (Frame.replyStatus [0x2A140000]).toNat = ReplyStatus.malformed.code ∧
    11 ≤ (Frame.replyStatus [0x2B140000]).toNat := by decide

theorem witness_LateReply :
    (withEntry (.answered held true) work).entries[5] = .answered held true ∧
    (withEntry (.linger held 9) work).entries[5] = .linger held 9 ∧ Frame.isOneOf [0x20140000] [2] = true ∧
    Frame.sizeOk [0x20140000] = true ∧ work.branches[1].state.inService = true ∧ work.counters.lateReplies < 65534 := by decide

/-- Tag 48 names no entry; entry 5 FREE, and ISSUED on another branch. -/
theorem witness_StrayReply :
    (Frame.replyTag [0x20C00000]).toNat = 48 ∧ work.entries[5] = .free ∧ (withEntry (.issued held 9) work).entries[5] = .issued held 9 ∧
    held.branch ≠ 0 ∧ (Frame.replyTag [0x20140000]).toNat = 5 ∧ work.branches[0].state.inService = true := by decide

/-- A credit that fills to the capacity, and one more. -/
theorem witness_BranchCreditFrame :
    PortsOk (atPort { port with credit := 7 }) ∧ Frame.isOneOf [0x50000000] [5] = true ∧ Frame.sizeOk [0x50000000] = true ∧
    (atPort { port with credit := 7 }).branches[1].credit + Frame.creditCount [0x50000000] ≤ port.capacity ∧
    port.capacity < work.branches[1].credit + Frame.creditCount [0x50000000] ∧ (outState .training true).branches[1].state = .training :=
  ⟨portsOk_port _ (by decide) (by decide) (by decide) (by decide) (by decide), by decide⟩

theorem witness_BranchNoticeFrame :
    Frame.isOneOf [0x30000007] [3] = true ∧ Frame.sizeOk [0x30000007] = true ∧ (Frame.lineOrVector [0x30000007]).toNat = (7 : Fin 8).val ∧
    8 ≤ (Frame.lineOrVector [0x30000008]).toNat ∧ work.branches[1].state.inService = true ∧
    (outState .resetting true).branches[1].state = .resetting := by decide

theorem witness_WithdrawAndReturn :
    PortsOk (inState .draining) ∧ Frame.isOneOf [0x80000000] [8] = true ∧ Frame.isOneOf [0x90000000] [9] = true ∧
    Frame.sizeOk [0x80000000] = true ∧ Frame.sizeOk [0x90000000] = true ∧ (inState .draining).branches[1].state = .draining ∧
    (inState .lent).branches[1].state = .lent ∧ (outState .training true).branches[1].state = .training :=
  ⟨portsOk_port _ (by decide) (by decide) (by decide) (by decide) (by decide), by decide⟩

/-- GRANT wanted, RECLAIM wanted, and marks on lines 3 and 7; a busy transmitter, a branch out of service, no mark. -/
theorem witness_LinkControlSends :
    PortsOk (atPort { port with state := .lent, lendWanted := .granted }) ∧ PortsOk (atPort { port with lendTold := .granted }) ∧
    (atPort { port with state := .lent, lendWanted := .granted }).branches[1].tx = none ∧
    port.lendWanted = port.lendTold ∧ ((port.releaseMarks.set 7 true).set 3 true)[3] = true ∧
    (∀ k : Fin 8, k < 3 → ((port.releaseMarks.set 7 true).set 3 true)[k] = false) ∧
    ({ port with tx := some .grant } : Branch).tx ≠ none ∧ (outState .training true).branches[1].state.inService = false ∧
    port.lendWanted = .notGranted ∧ port.lendTold = .notGranted ∧ ({ port with lendTold := .granted } : Branch).lendWanted ≠ .granted ∧
    (∀ l : Fin 8, port.releaseMarks[l] = false) :=
  ⟨portsOk_port _ (by decide) (by decide) (by decide) (by decide) (by decide),
   portsOk_port _ (by decide) (by decide) (by decide) (by decide) (by decide), by decide⟩

/-- A mark and an item with credit wait behind RECLAIM, and an item behind a mark. -/
theorem test_send_order :
    stop (exec (.sendRelease 1) (atPort { port with lendTold := .granted, releaseMarks := port.releaseMarks.set 3 true })) =
      some (.inl .notBranchChoice) ∧
    stop (exec (.issuePosted 1) (atPort { port with lendTold := .granted, queue := [item] })) = some (.inl .notBranchChoice) ∧
    stop (exec (.issuePosted 1) (atPort { port with releaseMarks := port.releaseMarks.set 3 true, queue := [item] })) =
      some (.inl .notBranchChoice) := by decide

/-- A port that stalls, one whose timer runs, one with credit; heads of both kinds, with one credit left; each reason not to issue. -/
theorem witness_StallTimerAndIssue :
    ({ port with queue := [item], credit := 0 } : Branch).queue ≠ [] ∧ ({ port with queue := [item], credit := 0 } : Branch).stallTimer = none ∧
    stalled.branches[1].stallTimer = some 1000 ∧ port.credit ≠ 0 ∧
    0 < (atPort { port with credit := 1, queue := [item] }).branches[1].credit ∧ port.tx = none ∧ port.lendWanted = port.lendTold ∧
    port.releaseMarks = Vector.replicate 8 false ∧ (withEntry (.queued held []) work).entries[5] = .queued held [] ∧
    (atPort { port with queue := [.nonPosted 5] }).branches[1].queue = .nonPosted 5 :: [] ∧
    (atPort { port with queue := [item] }).branches[1].queue = item :: [] ∧
    ({ port with tx := some .grant } : Branch).tx ≠ none ∧ ({ port with lendTold := .granted } : Branch).lendWanted ≠ .granted ∧
    (port.releaseMarks.set 7 true)[7] = true ∧ stalled.branches[1].credit = 0 ∧
    ((inState .fenced).branches[1].state ≠ .active ∧ (inState .fenced).branches[1].state ≠ .draining) ∧ port.queue = [] ∧
    item.isPosted = true ∧ (Item.nonPosted 5).isPosted = false := by decide

/-- Differences at the ends of the range of R46; deadlines that are reached and not reached, and a line without a record. -/
theorem witness_Expiries :
    [(0 : Time), 1, 2147483647, 2147483648, 4294967295].map (fun d => reached (d + 1000) 1000) = [true, false, false, true, true] ∧
    (withEntry (.issued held 1000) work).entries[5] = .issued held 1000 ∧ reached 1000 work.timeBase = true ∧
    reached 1001 work.timeBase = false ∧ (withEntry (.linger held 1000) work).entries[5] = .linger held 1000 ∧
    (sent 3 0x21 1000).send = .sent 1000 ∧
    ({ work with deliveries := [sent 0 1 5000, sent 3 0x21 1000] } : State).deliveries = [sent 0 1 5000] ++ sent 3 0x21 1000 :: [] ∧
    (∀ y ∈ [sent 0 1 5000], y.line ≠ 3) ∧ reached 5000 work.timeBase = false ∧ work.deliveries = [] := by decide

/-- Three lines that wait: an internal one of the highest priority and two branch lines of equal priority. -/
def threeWait : State := withLine 50 { waiting 9 with priority := 7 } (withLine 3 (waiting 1) (withLine 20 (waiting 2) work))

theorem witness_SelectionOrder :
    threeWait.trunk.state = .up ∧ threeWait.deliveries.length < 4 ∧ threeWait.lines[3].state = .pending ∧
    ∀ m : LineId, threeWait.lines[m].state = .pending → m ≠ 3 →
      (3 < 48 ∧ 48 ≤ m.val) ∨
      ((3 < 48 ↔ m.val < 48) ∧
        (threeWait.lines[m].priority.toNat < threeWait.lines[3].priority.toNat ∨
          (threeWait.lines[m].priority = threeWait.lines[3].priority ∧ 3 < m.val))) := by decide +kernel

/-- A RETIRING window with count 0 and with work; DRAINING branches without work, with and without lend, and with work; the operations
that end so, and others. -/
theorem witness_Completions :
    Window.drained { window with state := .retiring } = true ∧ Window.drained { window with state := .retiring, inFlight := 1 } = false ∧
    (inState .draining).drained 1 = true ∧ (atPort { port with state := .draining, drainLend := true }).drained 1 = true ∧
    (atPort { port with state := .draining, queue := [item] }).drained 1 = false ∧ (inState .active).drained 1 = false ∧
    (withEntry (.issued held 9) (inState .draining)).drained 1 = false ∧
    (([retire, fence, resetting] : List PendingControl).filter fun r => decide (r.op ≠ .fence 1)) = [retire, resetting] := by decide

/-- Both completions at once: the records in the order of the list, behind what waits. -/
theorem test_completions_in_order :
    (let t := { inState .draining with
        windows := work.windows.set 0 { window with state := .retiring }, pcl := [resetting, fence, retire], ctlQ := answer .done [] }.settle
          (fun _ => true) (fun _ => true)
     (t.pcl, t.ctlQ, t.branches[1].state, t.windows[0])) =
      ([resetting], answer .done [] ++ [⟨3, .done, [], .completion⟩, ⟨4, .done, [], .completion⟩], .fenced, Window.blank) := by decide

/-- The four states of a line; counters at 65533, 65534 and 65535, and I6 itself the line that is raised; a Fault Queue of 7 and of 8. -/
theorem witness_AttentionRules :
    work.lines[3].state = .idle ∧ (withLine 3 { Line.powerOn with state := .held } work).lines[3].state = .held ∧
    (withLine 54 (waiting 1) work).lines[54].state = .pending ∧ acked.lines[47].state = .delivered ∧
    ({ acked with counters := { acked.counters with coalesced := 65533 } } : State).counters.coalesced ≠ 65534 ∧
    ({ acked with counters := { acked.counters with coalesced := 65534 } } : State).counters.coalesced = 65534 ∧
    (54 : LineId) = internalLine 6 ∧ .trunkCheckFailure ∈ trunkResetCauses ∧ work.trunk.state = .up ∧
    (List.replicate 7 ({ kind := .badNotice, timestamp := 5 } : FaultRecord)).length < 8 ∧
    8 ≤ (List.replicate 8 ({ kind := .badNotice, timestamp := 5 } : FaultRecord)).length ∧ work.counters.faultOverflows ≠ 65534 := by
  decide

/-- Each counter at 65534 reaches 65535 and raises I6, at 65535 it holds without a raise. -/
theorem test_counters_saturate :
    [65534, 65535].map (fun n => [State.countLate, State.countStrayAck, State.countResend, State.countOverflow, State.countCoalesced].map
      fun f => (f { work with counters := ⟨n, n, n, n, n, n⟩ }).lines[54].state) =
      [List.replicate 5 .held, List.replicate 5 .idle] ∧
    [65534, 65535].map (fun n => left (fun t => (t.counters.trunkResets, t.lines[54].state))
      (exec .trunkCheckFailure { work with counters := ⟨n, n, n, n, n, n⟩ })) = [some (65535, .held), some (65535, .idle)] ∧
    ((withLine 54 (waiting 1) { work with counters := { work.counters with coalesced := 65534 } }).raise 54).counters.coalesced = 65535 := by
  decide

/-- A command that changes its own part and a command that changes nothing. -/
theorem witness_WhatCommandsKeep :
    stop (exec .setTiming (ctl 6 [1, 1, 1, 1, 100, 1000] work)) = none ∧ stop (exec .trunkFrameSent work) = none := by decide

/-! ## A busy state that satisfies every invariant -/

/-- Entry 7 has been answered and its Reply waits. -/
def answeredHeld : Held := { held with tag := 10 }

/-- Branch 1 drains towards a lend with a QUEUED entry and a posted item through window 0, which is RETIRING; both operations are
pending; entry 7 is ANSWERED; lines 3 and 20 are DELIVERED; two frames wait to be sent; one credit is in the accumulator. -/
def busy : State :=
  withLine 3 (delivered false) (withLine 20 (delivered true) { work with
    windows := work.windows.set 0 { window with state := .retiring, inFlight := 2 }
    entries := (work.entries.set 5 (.queued held [])).set 7 (.answered answeredHeld true)
    branches := work.branches.set 1
      { port with state := .draining, drainLend := true, queue := [.nonPosted 5, item], credit := 0, stallTimer := some 2000 }
    deliveries := [sent 20 0x21 0, sent 3 0x21 0]
    replyQ := [⟨10, .timeout, [], .entry 7⟩, ⟨11, .noRoute, [], .refusal⟩]
    ctlQ := [⟨9, .done, [], .completion⟩]
    acc := 1
    pcl := [retire, fence]
    pending := [.trunkFrameSent] })

theorem witness_StepsNext : (stop (step busy)).isNone = true := by decide

theorem witness_InvariantPortsAndLinks : PortsOk busy ∧ LinksOk busy := by
  unfold PortsOk LinksOk
  decide +kernel

theorem witness_InvariantNotices : NoticesOk busy := by
  unfold NoticesOk
  decide +kernel

/-- The upstream tag an entry holds. -/
def tagOf (x : Entry) : Option (BitVec 6) := x.tagHeld.map Held.tag

theorem busy_tags : ∀ e f : EntryId, e ≠ f → tagOf busy.entries[e] = none ∨ tagOf busy.entries[e] ≠ tagOf busy.entries[f] := by
  decide +kernel

theorem busy_replies : ∀ r ∈ busy.replyQ, ∀ e : EntryId, r.origin = .entry e → tagOf busy.entries[e] = some r.tag := by
  decide +kernel

theorem witness_InvariantTagsAndReplies : TagsOk busy ∧ RepliesOk busy := by
  refine ⟨fun e f n h k he hf x => ?_, by decide +kernel, fun r hr e o h he => ?_⟩
  · rcases busy_tags e f n with t | t <;> unfold tagOf at t <;> simp only [he, hf] at t <;> simp [x] at t
  · have t := busy_replies r hr e o
    unfold tagOf at t
    simp only [he] at t
    simpa using t.symm

theorem witness_InvariantWindowsAndCounts : WindowsOk busy ∧ CountsOk busy := by
  unfold WindowsOk WindowOk CountsOk
  decide +kernel

theorem witness_InvariantTrunk : TrunkOk busy ∧ RepliesOk busy :=
  ⟨⟨by decide, by decide, by decide, fun h => absurd rfl h⟩, witness_InvariantTagsAndReplies.2⟩

theorem witness_InvariantPendingControl : PortsOk busy ∧ PendingOk busy := by
  refine ⟨witness_InvariantPortsAndLinks.1, ?_⟩
  unfold PendingOk
  decide +kernel

theorem busy_idle : ∀ (b : BranchId), busy.branches[b].state = .fenced ∨ busy.branches[b].state = .lent → False := by decide

theorem busy_inService : ∀ b : BranchId, busy.branches[b].state.inService = true := by decide

theorem witness_InvariantWork : WorkOk busy where
  counts := by decide +kernel
  empties := by decide +kernel
  items := by decide +kernel
  idle := fun b h => (busy_idle b h).elim
  out := fun b h => by rw [busy_inService b] at h; exact absurd h (by decide)
  drain := by decide
  settled := by decide +kernel

end Sys2Proof.Tests
end

section
/-! Rules for the outcome of a command: a property that every next state has is shown once for each way in which the commands are
built (a frame taken, a CONTROL frame taken, operands read), and an invariant that reads some blocks alone is kept by what leaves
those blocks as they are. -/

namespace Sys2Proof.Machine

open Sys2Proof.Safety

/-! ## The state an outcome leaves -/

/-- The state that the outcome leaves, if it leaves one, satisfies `P`. -/
def Leaves (P : State → Prop) (r : Result) : Prop := ∀ t : State, r = .next t → P t

theorem leaves_next {P : State → Prop} {t : State} (h : P t) : Leaves P (.next t) := by
  rintro _ ⟨⟩
  exact h

theorem leaves_fault {P : State → Prop} {x : Fault} : Leaves P (.fault x) := by
  rintro _ ⟨⟩

/-- A command that the part takes under a condition leaves what it leaves then. -/
theorem leaves_guard {P : State → Prop} {p : Prop} [Decidable p] {t : State} {x : Fault} (h : p → P t) :
    Leaves P (if p then .next t else .fault x) := by
  split
  · exact leaves_next (h ‹_›)
  · exact leaves_fault

/-- A command that brings a frame leaves what the frame's owner leaves, or what a failed check leaves (R158). -/
theorem leaves_takeFrame {P : State → Prop} {isRow : Bool} {f : Frame} {checkFails good : State → State} {s : State}
    (hgood : P (good s)) (hbad : P (checkFails s)) : Leaves P (takeFrame isRow f checkFails good s) := by
  unfold takeFrame
  split
  · apply leaves_next
    split
    · exact hgood
    · exact hbad
  · rintro _ ⟨⟩

/-- A control command leaves what its run on the frame at the head leaves (R132). -/
theorem leaves_takeControl {P : State → Prop} {isRow : Nat → Bool} {run : Control → State → State} {s : State}
    (h : ∀ (c : Control) (rest : List IntakeFrame), P (run c { s with intake := rest })) :
    Leaves P (takeControl isRow run s) := by
  unfold takeControl
  split
  · split
    · exact leaves_next (h _ _)
    · exact leaves_fault
  · exact leaves_fault

/-- A step leaves what a microsecond leaves, or what the command at the front of the queue leaves. -/
theorem leaves_step {P : State → Prop} {s : State} (htick : P s.tick)
    (hexec : ∀ (c : Instr) (rest : List Instr), Leaves P (exec c { s with pending := rest })) : Leaves P (step s) := by
  unfold step
  split
  · exact leaves_next htick
  · exact hexec _ _

/-! ## Properties that read some blocks alone -/

/-- The property reads the blocks of `ks` alone. -/
def ReadsOnly (ks : List Block) (P : State → Prop) : Prop := ∀ s t : State, (∀ k ∈ ks, k.same s t) → P s → P t

/-- The intake apart, every block is as it was. -/
theorem same_intake {ks : List Block} (h : .intake ∉ ks) (s : State) (q : List IntakeFrame) :
    ∀ k ∈ ks, k.same s { s with intake := q } := by
  intro k hk
  cases k
  case intake => exact absurd hk h
  all_goals rfl

/-- The Control Reply Queue apart, every block is as it was. -/
theorem same_answerNow {ks : List Block} (h : .ctlQ ∉ ks) (s : State) (c : Control) (st : ControlStatus) (ws : List Word) :
    ∀ k ∈ ks, k.same s (s.answerNow c st ws) := by
  intro k hk
  cases k
  case ctlQ => exact absurd hk h
  all_goals rfl

/-- No block holds the queue of commands. -/
theorem same_pending (ks : List Block) (s : State) (q : List Instr) : ∀ k ∈ ks, k.same s { s with pending := q } := by
  intro k _
  cases k <;> rfl

/-- A control command with operands leaves a property that the answer of bad operands and its run on operands in range keep
(R177, R179). -/
theorem leaves_withOperands {α : Type} {P : State → Prop} {isRow : Nat → Bool} {operands : Control → Option α}
    {run : Control → α → State → State} {s : State} (htaken : ∀ rest : List IntakeFrame, P { s with intake := rest })
    (hanswer : ∀ (c : Control) (u : State), P u → P (u.answerNow c .badOperand []))
    (hrun : ∀ (c : Control) (a : α) (u : State), operands c = some a → P u → P (run c a u)) :
    Leaves P (takeControl isRow (fun c => withOperands (operands c) c (run c)) s) := by
  apply leaves_takeControl
  intro c rest
  unfold withOperands
  split
  · exact hrun c _ _ ‹_› (htaken rest)
  · exact hanswer c _ (htaken rest)

/-- The same for a property that reads neither the intake nor the Control Reply Queue. -/
theorem leaves_command {α : Type} {ks : List Block} {P : State → Prop} (hP : ReadsOnly ks P) (hi : .intake ∉ ks)
    (hq : .ctlQ ∉ ks) {isRow : Nat → Bool} {operands : Control → Option α} {run : Control → α → State → State} {s : State}
    (hs : P s) (hrun : ∀ (c : Control) (a : α) (u : State), operands c = some a → P u → P (run c a u)) :
    Leaves P (takeControl isRow (fun c => withOperands (operands c) c (run c)) s) :=
  leaves_withOperands (fun rest => hP _ _ (same_intake hi s rest) hs)
    (fun c u hu => hP _ _ (same_answerNow hq u c _ _) hu) hrun

/-! ## Frames -/

/-- `SameBut`, block by block. -/
theorem sameBut_iff (ks : List Block) (s t : State) : SameBut ks s t ↔
    (.porst ∈ ks ∨ t.porst = s.porst) ∧ (.timeBase ∈ ks ∨ t.timeBase = s.timeBase) ∧
    (.timing ∈ ks ∨ t.timing = s.timing) ∧ (.windows ∈ ks ∨ t.windows = s.windows) ∧
    (.entries ∈ ks ∨ t.entries = s.entries) ∧ (.branches ∈ ks ∨ t.branches = s.branches) ∧
    (.lines ∈ ks ∨ t.lines = s.lines) ∧ (.deliveries ∈ ks ∨ t.deliveries = s.deliveries) ∧
    (.intake ∈ ks ∨ t.intake = s.intake) ∧ (.acc ∈ ks ∨ t.acc = s.acc) ∧ (.replyQ ∈ ks ∨ t.replyQ = s.replyQ) ∧
    (.ctlQ ∈ ks ∨ t.ctlQ = s.ctlQ) ∧ (.trunk ∈ ks ∨ t.trunk = s.trunk) ∧ (.pcl ∈ ks ∨ t.pcl = s.pcl) ∧
    (.faults ∈ ks ∨ t.faults = s.faults) ∧ (.counters ∈ ks ∨ t.counters = s.counters) ∧ t.pending = s.pending := by
  constructor
  · rintro ⟨h, hp⟩
    have hk (k : Block) : k ∈ ks ∨ k.same s t := or_iff_not_imp_left.mpr (h k)
    exact ⟨hk .porst, hk .timeBase, hk .timing, hk .windows, hk .entries, hk .branches, hk .lines, hk .deliveries, hk .intake,
      hk .acc, hk .replyQ, hk .ctlQ, hk .trunk, hk .pcl, hk .faults, hk .counters, hp⟩
  · rintro ⟨h1, h2, h3, h4, h5, h6, h7, h8, h9, h10, h11, h12, h13, h14, h15, h16, hp⟩
    refine ⟨fun k hk => ?_, hp⟩
    cases k <;> exact Or.resolve_left ‹_› hk

theorem sameBut_refl (ks : List Block) (s : State) : SameBut ks s s := by
  simp [sameBut_iff]

/-- Frames compose, and widen. -/
theorem sameBut_trans {ks ls ms : List Block} {s t u : State} (hst : SameBut ks s t) (htu : SameBut ls t u)
    (hk : ks ⊆ ms) (hl : ls ⊆ ms) : SameBut ms s u := by
  refine ⟨fun k hn => ?_, htu.2.trans hst.2⟩
  have h1 : k.same s t := hst.1 k fun h => hn (hk h)
  have h2 : k.same t u := htu.1 k fun h => hn (hl h)
  cases k <;> exact Eq.trans h2 h1

/-- A property is kept by what leaves the blocks that it reads. -/
theorem ReadsOnly.keep {ks ls : List Block} {P : State → Prop} (hP : ReadsOnly ks P) {s t : State} (h : SameBut ls s t)
    (hd : ∀ k ∈ ks, k ∉ ls) (hs : P s) : P t :=
  hP s t (fun k hk => h.1 k (hd k hk)) hs

end Sys2Proof.Machine
end

section
/-! The frame of every command: the blocks that its rule may write (chapters 1 to 10). A proof about one block handles the commands
that write it and cites `exec_frame` for the others. -/

namespace Sys2Proof.Machine

open Sys2Proof.Safety

/-! ## Groups of blocks -/

/-- What a fault record, a raise or a count writes (R106, R188, R192). -/
def attentionBlocks : List Block := [.faults, .lines, .counters]

/-- What completions write besides the record whose wait ends (R17, R93, R183). -/
def completionBlocks : List Block := [.windows, .branches, .pcl, .ctlQ]

/-- What the answer of an entry writes (R28, R34). -/
def entryAnswerBlocks : List Block := .entries :: .replyQ :: completionBlocks

/-- What the loss of a branch writes (R82 to R85). -/
def lossBlocks : List Block := entryAnswerBlocks ++ attentionBlocks

/-- What a trunk reset writes (R164). -/
def trunkResetBlocks : List Block :=
  [.trunk, .intake, .acc, .replyQ, .ctlQ, .pcl, .deliveries, .entries, .windows, .branches, .lines, .counters]

/-! ## The shared operations -/

theorem recordFault_frame (f : FaultRecord) (s : State) : SameBut attentionBlocks s (s.recordFault f) := by
  simp [sameBut_iff, attentionBlocks]

theorem raise_frame (n : LineId) (s : State) : SameBut attentionBlocks s (s.raise n) := by
  simp [sameBut_iff, attentionBlocks]

theorem setBranch_frame (s : State) (b : BranchId) (br : Branch) : SameBut [.branches] s (s.setBranch b br) := by
  simp [sameBut_iff]

theorem complete_frame (s : State) (f : LongOp → Option ControlStatus) : SameBut [.pcl, .ctlQ] s (s.complete f) := by
  simp [sameBut_iff]

theorem settle_frame (s : State) (ws : WindowId → Bool) (bs : BranchId → Bool) : SameBut completionBlocks s (s.settle ws bs) := by
  simp [sameBut_iff, completionBlocks]

theorem answerEntry_frame (s : State) (e : EntryId) (h : Held) (o : Bool) (st : ReplyStatus) (ws : List Word) :
    SameBut entryAnswerBlocks s (s.answerEntry e h o st ws) := by
  simp [sameBut_iff, entryAnswerBlocks, completionBlocks]

theorem lose_frame (s : State) (b : BranchId) (st : BranchState) : SameBut lossBlocks s (s.lose b st) := by
  simp [sameBut_iff, lossBlocks, entryAnswerBlocks, completionBlocks, attentionBlocks]

theorem lossBy_frame (s : State) (b : BranchId) (cause : LossCause) : SameBut lossBlocks s (s.lossBy b cause) := by
  simp [sameBut_iff, lossBlocks, entryAnswerBlocks, completionBlocks, attentionBlocks, State.lossBy]

theorem sendReset_lossBy_frame (s : State) (b : BranchId) (cause : LossCause) (br : Branch) :
    SameBut lossBlocks s (State.lossBy b cause (s.setBranch b br)) :=
  sameBut_trans (setBranch_frame s b br) (lossBy_frame _ b cause) (by decide) (List.Subset.refl _)

theorem branchCheckFails_frame (b : BranchId) (s : State) : SameBut lossBlocks s (s.branchCheckFails b) := by
  unfold State.branchCheckFails
  split
  · exact sendReset_lossBy_frame s b .check _
  · exact sameBut_refl _ s

theorem trunkReset_frame (sends : Bool) (s : State) : SameBut trunkResetBlocks s (s.trunkReset sends) := by
  simp [sameBut_iff, trunkResetBlocks, State.trunkReset]

theorem trunkCheckFails_frame (s : State) : SameBut trunkResetBlocks s s.trunkCheckFails := by
  unfold State.trunkCheckFails
  split
  · exact trunkReset_frame true s
  · exact sameBut_refl _ s

theorem clearPath_frame (s : State) : SameBut entryAnswerBlocks s s.clearPath := by
  simp [sameBut_iff, entryAnswerBlocks, completionBlocks]

/-! ## Frames received -/

theorem arrive_frame (x : IntakeFrame) (s : State) : SameBut (.intake :: attentionBlocks) s (s.arrive x) := by
  unfold State.arrive
  split
  · exact sameBut_refl _ s
  · split <;> simp [sameBut_iff, attentionBlocks]

theorem takeAck_frame (v : BitVec 8) (s : State) :
    SameBut [.deliveries, .lines, .branches, .counters] s (s.takeAck v) := by
  unfold State.takeAck State.acknowledge
  split
  · exact sameBut_refl _ s
  · split <;> simp [sameBut_iff]

theorem trunkUnexpected_frame (k : BitVec 4) (s : State) : SameBut attentionBlocks s (s.trunkUnexpected k) := by
  unfold State.trunkUnexpected
  split
  · exact recordFault_frame _ s
  · exact sameBut_refl _ s

theorem strayReply_frame (b : BranchId) (t : BitVec 6) (s : State) : SameBut attentionBlocks s (s.strayReply b t) :=
  recordFault_frame _ s

theorem matchedReply_frame (b : BranchId) (e : EntryId) (h : Held) (st : ReplyStatus) (data : List Word) (s : State) :
    SameBut lossBlocks s (s.matchedReply b e h st data) := by
  have hans (o : Bool) (st : ReplyStatus) (ws : List Word) : SameBut lossBlocks s (s.answerEntry e h o st ws) :=
    sameBut_trans (answerEntry_frame s e h o st ws) (sameBut_refl entryAnswerBlocks _) (by decide) (by decide)
  unfold State.matchedReply
  split
  · split
    · exact hans false .ok data
    · exact sameBut_trans (hans false .targetError []) (recordFault_frame _ _) (by decide) (by decide)
  · exact hans false st []

theorem replyTo_frame (b : BranchId) (e : EntryId) (st : ReplyStatus) (data : List Word) (s : State) :
    SameBut lossBlocks s (s.replyTo b e st data) := by
  have hstray : SameBut lossBlocks s (s.strayReply b (BitVec.ofNat 6 e.val)) :=
    sameBut_trans (strayReply_frame b _ s) (sameBut_refl attentionBlocks _) (by decide) (by decide)
  have hlate (x : Entry) : SameBut lossBlocks s (s.setEntry e x).countLate := by
    simp [sameBut_iff, lossBlocks, entryAnswerBlocks, attentionBlocks]
  unfold State.replyTo
  dsimp only
  split
  case h_1 =>
    split
    · exact matchedReply_frame b e _ st data s
    · exact hstray
  case h_2 =>
    split
    · exact hlate _
    · exact hstray
  case h_3 =>
    split
    · exact hlate _
    · exact hstray
  all_goals exact hstray

theorem takeReply_frame (b : BranchId) (t : BitVec 6) (st : ReplyStatus) (data : List Word) (s : State) :
    SameBut lossBlocks s (s.takeReply b t st data) := by
  unfold State.takeReply
  split
  · split
    · exact replyTo_frame b _ st data s
    · exact sameBut_trans (strayReply_frame b t s) (sameBut_refl attentionBlocks _) (by decide) (by decide)
  · exact sameBut_refl _ s

theorem takeCredit_frame (b : BranchId) (n : Nat) (s : State) : SameBut (.branches :: attentionBlocks) s (s.takeCredit b n) := by
  unfold State.takeCredit
  dsimp only
  split
  · split <;> simp [sameBut_iff, attentionBlocks]
  · exact sameBut_refl _ s

theorem takeNotice_frame (b : BranchId) (v : BitVec 8) (s : State) : SameBut attentionBlocks s (s.takeNotice b v) := by
  unfold State.takeNotice
  split
  · split
    · exact raise_frame _ s
    · exact recordFault_frame _ s
  · exact sameBut_refl _ s

theorem takeWithdraw_frame (b : BranchId) (s : State) : SameBut (.branches :: attentionBlocks) s (s.takeWithdraw b) := by
  unfold State.takeWithdraw State.wrongMoment
  split <;> simp [sameBut_iff, attentionBlocks]

theorem takeReturn_frame (b : BranchId) (s : State) : SameBut (.branches :: attentionBlocks) s (s.takeReturn b) := by
  unfold State.takeReturn State.wrongMoment
  split <;> simp [sameBut_iff, attentionBlocks]

theorem branchUnexpected_frame (b : BranchId) (k : BitVec 4) (s : State) : SameBut attentionBlocks s (s.branchUnexpected b k) := by
  unfold State.branchUnexpected
  split
  · exact recordFault_frame _ s
  · exact sameBut_refl _ s

end Sys2Proof.Machine
end

section
/-! The blocks that each command writes (`writes`): what it leaves alone is what its frame names. -/

namespace Sys2Proof.Machine

open Sys2Proof.Safety

/-! ## Control commands -/

/-- What an answer to a control frame writes (R148, R177). -/
def controlAnswerBlocks : List Block := [.intake, .ctlQ]

theorem answerNow_frame (s : State) (c : Control) (st : ControlStatus) (ws : List Word) :
    SameBut controlAnswerBlocks s (s.answerNow c st ws) := by
  simp [sameBut_iff, controlAnswerBlocks]

theorem loadWindow_frame (c : Control) (o : LoadWindowOperands) (s : State) :
    SameBut (.windows :: controlAnswerBlocks) s (s.loadWindow c o) := by
  unfold State.loadWindow
  split
  · simp [sameBut_iff, controlAnswerBlocks]
  · split <;> simp [sameBut_iff, controlAnswerBlocks]

theorem retireWindow_frame (c : Control) (w : WindowId) (s : State) :
    SameBut (.windows :: .acc :: .pcl :: controlAnswerBlocks) s (s.retireWindow c w) := by
  unfold State.retireWindow
  split
  case h_3 =>
    split
    · simp [sameBut_iff, controlAnswerBlocks]
    · split <;> simp [sameBut_iff, controlAnswerBlocks]
  all_goals simp [sameBut_iff, controlAnswerBlocks]

theorem fenceBranch_frame (c : Control) (b : BranchId) (lend : Bool) (s : State) :
    SameBut (.branches :: .acc :: .pcl :: controlAnswerBlocks) s (s.fenceBranch c b lend) := by
  unfold State.fenceBranch
  dsimp only
  split
  case h_5 =>
    split
    · simp [sameBut_iff, controlAnswerBlocks]
    · split <;> simp [sameBut_iff, controlAnswerBlocks]
  all_goals simp [sameBut_iff, controlAnswerBlocks]

theorem unfenceBranch_frame (c : Control) (b : BranchId) (s : State) :
    SameBut (.branches :: .pcl :: controlAnswerBlocks) s (s.unfenceBranch c b) := by
  unfold State.unfenceBranch
  dsimp only
  split <;> simp [sameBut_iff, controlAnswerBlocks]

/-- What a reset writes beyond the effects of a loss: the credit returned (R97, R141). -/
def resetBranchBlocks : List Block := .intake :: .acc :: lossBlocks

theorem resetEffects_frame (seq : BitVec 8) (b : BranchId) (s : State) :
    SameBut lossBlocks s (s.resetEffects seq b) := by
  unfold State.resetEffects State.resetWork
  split <;> simp [sameBut_iff, lossBlocks, entryAnswerBlocks, completionBlocks, attentionBlocks]

theorem resetBranch_frame (c : Control) (b : BranchId) (s : State) :
    SameBut resetBranchBlocks s (s.resetBranch c b) := by
  have hans (st : ControlStatus) : SameBut resetBranchBlocks s (s.answerNow c st []) :=
    sameBut_trans (answerNow_frame s c st []) (sameBut_refl controlAnswerBlocks _) (by decide) (by decide)
  have haccept (u : State) : SameBut resetBranchBlocks u (u.accept c (.reset b)) := by
    simp [sameBut_iff, resetBranchBlocks, lossBlocks, entryAnswerBlocks, completionBlocks]
  unfold State.resetBranch
  split
  · exact hans .already
  · split
    · exact hans .busy
    · exact sameBut_trans (resetEffects_frame c.seq b s) (haccept _) (by decide) (List.Subset.refl _)

/-- The frame of a control command: the answer's blocks, and those that its run on operands in range writes. -/
theorem command_frame {α : Type} {ks : List Block} {isRow : Nat → Bool} {operands : Control → Option α}
    {run : Control → α → State → State} {s : State} (hk : controlAnswerBlocks ⊆ ks)
    (hrun : ∀ (c : Control) (a : α) (u : State), SameBut ks u (run c a u)) :
    Leaves (SameBut ks s) (takeControl isRow (fun c => withOperands (operands c) c (run c)) s) := by
  refine leaves_withOperands (fun rest => ?_) (fun c u hu => ?_) (fun c a u _ hu => ?_)
  · have hi : SameBut controlAnswerBlocks s { s with intake := rest } := by simp [sameBut_iff, controlAnswerBlocks]
    exact sameBut_trans hi (sameBut_refl controlAnswerBlocks _) hk hk
  · exact sameBut_trans hu (answerNow_frame u c _ _) (List.Subset.refl _) hk
  · exact sameBut_trans hu (hrun c a u) (List.Subset.refl _) (List.Subset.refl _)

/-! ## Routing -/

theorem refuse_frame (r : Request) (st : ReplyStatus) (b : Option BranchId) (s : State) :
    SameBut (.acc :: .replyQ :: attentionBlocks) s (s.refuse r st b) := by
  unfold State.refuse
  split <;> simp [sameBut_iff, attentionBlocks]

theorem discardDuplicate_frame (r : Request) (s : State) : SameBut (.acc :: attentionBlocks) s (s.discardDuplicate r) := by
  unfold State.discardDuplicate
  simp [sameBut_iff, attentionBlocks]

theorem routeVia_frame (r : Request) (w : WindowId) (s : State) :
    SameBut [.acc, .entries, .branches, .windows] s (s.routeVia r w) := by
  unfold State.routeVia
  dsimp only
  split <;> simp [sameBut_iff, State.countIn]

/-- What an examination writes (R132 to R139). -/
def examinationBlocks : List Block := [.intake, .acc, .replyQ, .entries, .branches, .windows] ++ attentionBlocks

theorem routeExamination_frame (s : State) : Leaves (SameBut examinationBlocks s) (execRouteExamination s) := by
  have htaken (rest : List IntakeFrame) : SameBut [.intake] s { s with intake := rest } := by simp [sameBut_iff]
  unfold execRouteExamination
  split
  · apply leaves_next
    split
    · exact sameBut_trans (htaken _) (refuse_frame _ _ _ _) (by decide) (by decide)
    · exact sameBut_trans (htaken _) (discardDuplicate_frame _ _) (by decide) (by decide)
    · exact sameBut_refl _ s
    · exact sameBut_trans (htaken _) (routeVia_frame _ _ _) (by decide) (by decide)
  · exact leaves_fault

/-! ## Every command -/

/-- The blocks that the rule of a command may write. A command that brings a frame may find that it fails its check (R158). -/
def writes : Instr → List Block
  | .powerOnReset => [.porst, .timeBase, .timing] ++ trunkResetBlocks ++ [.faults]
  | .leavePowerOnReset => [.porst, .trunk, .branches]
  | .trunkPartnerAppears | .trunkFrameSent => [.trunk]
  | .trunkTrainingComplete => .trunk :: .acc :: attentionBlocks
  | .trunkCheckFailure | .trunkResetSequenceReceived | .trunkPartnerLost => trunkResetBlocks
  | .intakeArrival _ | .noticeAck _ | .trunkCreditReceived _ | .trunkUnexpectedFrame _ => .faults :: trunkResetBlocks
  | .sendReply => [.trunk, .replyQ, .entries, .acc]
  | .sendControlReply => [.trunk, .ctlQ, .acc]
  | .sendNotice => .trunk :: .deliveries :: attentionBlocks
  | .sendCredit => [.trunk, .acc]
  | .routeExamination => examinationBlocks
  | .badCommand | .readWindow | .readLine | .readStatus | .identify => controlAnswerBlocks
  | .loadWindow => .windows :: controlAnswerBlocks
  | .retireWindow => .windows :: .acc :: .pcl :: controlAnswerBlocks
  | .loadLine => .lines :: controlAnswerBlocks
  | .setTiming => .timing :: controlAnswerBlocks
  | .fenceBranch => .branches :: .acc :: .pcl :: controlAnswerBlocks
  | .unfenceBranch => .branches :: .pcl :: controlAnswerBlocks
  | .resetBranch => resetBranchBlocks
  | .takeFaults => .faults :: controlAnswerBlocks
  | .clearCounters => .counters :: controlAnswerBlocks
  | .clearPath => .intake :: entryAnswerBlocks
  | .branchPartnerAppears _ | .branchFrameSent _ | .sendGrant _ | .sendReclaim _ | .sendRelease _ => [.branches]
  | .branchTrainingComplete _ _ => [.branches, .pcl, .ctlQ] ++ attentionBlocks
  | .branchPartnerLost _ | .branchCheckFailure _ | .branchResetSequenceReceived _ | .stallTimerExpiry _ => lossBlocks
  | .partnerWaitExpiry _ => [.branches, .pcl, .ctlQ]
  | .branchReply _ _ | .branchCredit _ _ | .branchNotice _ _ | .withdraw _ _ | .unitReturn _ _
  | .branchUnexpectedFrame _ _ => lossBlocks
  | .issueNonPosted _ => [.entries, .branches]
  | .issuePosted _ | .drainComplete _ | .retireComplete _ => completionBlocks
  | .requestDeadlineExpiry _ => entryAnswerBlocks
  | .lingerExpiry _ => [.entries]
  | .resendDeadlineExpiry _ => [.deliveries]
  | .selection => [.deliveries, .lines]

/-- The frame of a command on the trunk that brings a frame. -/
theorem trunkFrame_frame {isRow : Bool} {f : Frame} {ks : List Block} {good : State → State} {s : State}
    (h : SameBut ks s (good s)) (hk : ks ⊆ .faults :: trunkResetBlocks) :
    Leaves (SameBut (.faults :: trunkResetBlocks) s) (takeFrame isRow f State.trunkCheckFails good s) :=
  leaves_takeFrame (sameBut_trans h (sameBut_refl ks _) hk hk)
    (sameBut_trans (trunkCheckFails_frame s) (sameBut_refl trunkResetBlocks _) (by decide) (by decide))

/-- The frame of a command on a branch that brings a frame. -/
theorem branchFrame_frame {isRow : Bool} {f : Frame} {ks : List Block} {b : BranchId} {good : State → State} {s : State}
    (h : SameBut ks s (good s)) (hk : ks ⊆ lossBlocks) :
    Leaves (SameBut lossBlocks s) (takeFrame isRow f (State.branchCheckFails b) good s) :=
  leaves_takeFrame (sameBut_trans h (sameBut_refl ks _) hk hk) (branchCheckFails_frame b s)

/-- No command writes outside the blocks of its rule, and none changes the queue of commands. -/
theorem exec_frame (c : Instr) (s : State) : Leaves (SameBut (writes c) s) (exec c s) := by
  cases c <;> simp only [exec, writes]
  case powerOnReset => exact leaves_next (by simp [sameBut_iff, trunkResetBlocks, State.powerOn])
  case leavePowerOnReset =>
    refine leaves_next ?_
    split <;> simp [sameBut_iff]
  case trunkPartnerAppears => exact leaves_next (by simp [sameBut_iff])
  case trunkTrainingComplete =>
    refine leaves_next ?_
    unfold State.trunkUp
    dsimp only
    repeat' split
    all_goals simp [sameBut_iff, attentionBlocks]
  case trunkCheckFailure => exact leaves_next (trunkCheckFails_frame s)
  case trunkResetSequenceReceived =>
    refine leaves_next ?_
    split
    · exact trunkReset_frame false s
    · exact sameBut_refl _ s
  case trunkPartnerLost =>
    have hlost : SameBut [.trunk] s { s with trunk := { s.trunk with partner := false } } := by simp [sameBut_iff]
    refine leaves_next ?_
    split
    · exact sameBut_trans hlost (trunkReset_frame false _) (by decide) (by decide)
    all_goals simp [sameBut_iff, trunkResetBlocks]
  case intakeArrival f => exact trunkFrame_frame (arrive_frame _ s) (by decide)
  case noticeAck f => exact trunkFrame_frame (takeAck_frame _ s) (by decide)
  case trunkCreditReceived f => exact trunkFrame_frame (good := id) (sameBut_refl [] s) (by decide)
  case trunkUnexpectedFrame f => exact trunkFrame_frame (trunkUnexpected_frame _ s) (by decide)
  case trunkFrameSent => exact leaves_next (by simp [sameBut_iff])
  case sendReply =>
    unfold execSendReply
    split
    · refine leaves_next ?_
      unfold State.replySent
      split <;> simp [sameBut_iff, State.transmit]
    · exact leaves_fault
  case sendControlReply =>
    unfold execSendControlReply
    split
    · refine leaves_next ?_
      unfold State.controlSent
      split <;> simp [sameBut_iff, State.transmit]
    · exact leaves_fault
  case sendNotice =>
    unfold execSendNotice
    split
    · refine leaves_next ?_
      split <;> simp [sameBut_iff, attentionBlocks, State.transmit]
    · exact leaves_fault
  case sendCredit =>
    unfold execSendCredit
    split
    · exact leaves_next (by simp [sameBut_iff, State.transmit])
    · exact leaves_fault
  case routeExamination => exact routeExamination_frame s
  case badCommand =>
    refine leaves_takeControl fun c rest => ?_
    simp [sameBut_iff, controlAnswerBlocks]
  case loadWindow => exact command_frame (by decide) loadWindow_frame
  case readWindow => exact command_frame (by decide) fun c w u => answerNow_frame u c _ _
  case retireWindow => exact command_frame (by decide) retireWindow_frame
  case loadLine => exact command_frame (by decide) fun c o u => by simp [sameBut_iff, controlAnswerBlocks]
  case readLine => exact command_frame (by decide) fun c n u => answerNow_frame u c _ _
  case setTiming => exact command_frame (by decide) fun c k u => by simp [sameBut_iff, controlAnswerBlocks]
  case fenceBranch => exact command_frame (by decide) fun c o u => fenceBranch_frame c o.1 o.2 u
  case unfenceBranch => exact command_frame (by decide) unfenceBranch_frame
  case resetBranch => exact command_frame (by decide) resetBranch_frame
  case readStatus => exact command_frame (by decide) fun c _ u => answerNow_frame u c _ _
  case takeFaults => exact command_frame (by decide) fun c n u => by simp [sameBut_iff, controlAnswerBlocks]
  case clearCounters => exact command_frame (by decide) fun c _ u => by simp [sameBut_iff, controlAnswerBlocks]
  case clearPath =>
    exact command_frame (by decide) fun c _ u =>
      sameBut_trans (clearPath_frame u) (answerNow_frame _ c _ _) (by decide) (by decide)
  case identify => exact command_frame (by decide) fun c _ u => answerNow_frame u c _ _
  case branchPartnerAppears b => exact leaves_next (setBranch_frame s b _)
  case branchTrainingComplete b capacity =>
    refine leaves_next ?_
    split
    · exact sameBut_refl _ s
    · unfold State.branchTrained
      dsimp only
      split <;> simp [sameBut_iff, attentionBlocks]
  case branchPartnerLost b =>
    refine leaves_next ?_
    split
    · exact sendReset_lossBy_frame s b .signalLost _
    · exact sameBut_trans (setBranch_frame s b _) (sameBut_refl [] _) (by decide) (by decide)
  case branchCheckFailure b => exact leaves_next (branchCheckFails_frame b s)
  case branchResetSequenceReceived b =>
    refine leaves_next ?_
    split
    · exact lossBy_frame s b .partnerReset
    · exact sameBut_refl _ s
  case stallTimerExpiry b => exact leaves_guard fun _ => sendReset_lossBy_frame s b .stall _
  case partnerWaitExpiry b => exact leaves_guard fun _ => by simp [sameBut_iff]
  case branchReply b f => exact branchFrame_frame (takeReply_frame b _ _ _ s) (by decide)
  case branchCredit b f => exact branchFrame_frame (takeCredit_frame b _ s) (by decide)
  case branchNotice b f => exact branchFrame_frame (takeNotice_frame b _ s) (by decide)
  case withdraw b f => exact branchFrame_frame (takeWithdraw_frame b s) (by decide)
  case unitReturn b f => exact branchFrame_frame (takeReturn_frame b s) (by decide)
  case branchUnexpectedFrame b f => exact branchFrame_frame (branchUnexpected_frame b _ s) (by decide)
  case branchFrameSent b => exact leaves_next (setBranch_frame s b _)
  case sendGrant b => exact leaves_guard fun _ => setBranch_frame s b _
  case sendReclaim b => exact leaves_guard fun _ => setBranch_frame s b _
  case sendRelease b =>
    simp only [execSendRelease]
    split
    · exact leaves_next (setBranch_frame s b _)
    · exact leaves_fault
  case issueNonPosted b =>
    unfold execIssueNonPosted
    split
    · split
      · exact leaves_next (by simp [sameBut_iff])
      all_goals exact leaves_fault
    · exact leaves_fault
  case issuePosted b =>
    unfold execIssuePosted
    split
    · exact leaves_next (by simp [sameBut_iff, completionBlocks])
    · exact leaves_fault
  case requestDeadlineExpiry e =>
    unfold execRequestDeadlineExpiry
    split
    · exact leaves_guard fun _ => answerEntry_frame s e _ true .timeout []
    all_goals exact leaves_fault
  case lingerExpiry e =>
    unfold execLingerExpiry
    split
    · exact leaves_guard fun _ => by simp [sameBut_iff]
    all_goals exact leaves_fault
  case resendDeadlineExpiry n => exact leaves_guard fun _ => by simp [sameBut_iff]
  case selection =>
    unfold execSelection
    split
    · split
      · exact leaves_next (by simp [sameBut_iff])
      · exact leaves_fault
    · exact leaves_fault
  case drainComplete b => exact leaves_next (settle_frame s _ _)
  case retireComplete w => exact leaves_next (settle_frame s _ _)

/-- A property is kept by a command that writes none of the blocks that it reads. -/
theorem exec_keeps_of_frame {ks : List Block} {P : State → Prop} (hP : ReadsOnly ks P) {c : Instr} {s : State} (hs : P s)
    (hd : ∀ k ∈ ks, k ∉ writes c) : Leaves P (exec c s) :=
  fun t ht => hP.keep (exec_frame c s t ht) hd hs

end Sys2Proof.Machine
end

section
/-! The window records: what an event other than LOAD-WINDOW may do to a record, and that it keeps the records in range and
disjoint (R1, R12). -/

namespace Sys2Proof.Machine

open Sys2Proof.Safety

/-! ## What an event does to a record -/

/-- What an event other than LOAD-WINDOW may make of the record `v`: the EMPTY record, or `v` with another count, and perhaps RETIRING
in place of LIVE. The count of an EMPTY record does not rise. -/
def Window.Follows (v w : Window) : Prop :=
  w = Window.blank ∨
    (w = { v with state := w.state, inFlight := w.inFlight } ∧ (w.state = .empty ↔ v.state = .empty) ∧
      (v.state = .empty → w.inFlight ≤ v.inFlight))

theorem Window.Follows.blank (v : Window) : v.Follows Window.blank := .inl rfl

theorem Window.Follows.refl (v : Window) : v.Follows v := .inr ⟨rfl, Iff.rfl, fun _ => le_rfl⟩

theorem Window.Follows.trans {u v w : Window} (huv : u.Follows v) (hvw : v.Follows w) : u.Follows w := by
  rcases hvw with rfl | ⟨hw, hws, hwc⟩
  · exact .inl rfl
  · rcases huv with rfl | ⟨hv, hvs, hvc⟩
    · have hle : w.inFlight ≤ 0 := hwc rfl
      have hst : w.state = .empty := hws.mpr rfl
      left
      rw [hw, hst, Nat.le_zero.mp hle]
      rfl
    · right
      refine ⟨by rw [hw, hv], hws.trans hvs, fun h => (hwc (hvs.mpr h)).trans (hvc h)⟩

/-- A lower count follows. -/
theorem Window.Follows.lower {v : Window} {n : Nat} (h : n ≤ v.inFlight) : v.Follows { v with inFlight := n } :=
  .inr ⟨rfl, Iff.rfl, fun _ => h⟩

/-- Any count follows for a record that is not EMPTY, in LIVE or RETIRING. -/
theorem Window.Follows.occupied {v : Window} {st : WindowState} {n : Nat} (hv : v.state ≠ .empty) (hst : st ≠ .empty) :
    v.Follows { v with state := st, inFlight := n } :=
  .inr ⟨rfl, iff_of_false hst hv, fun h => absurd h hv⟩

/-- A record in order stays in order. -/
theorem windowOk_of_follows {v w : Window} (hv : WindowOk v) (h : v.Follows w) : WindowOk w := by
  rcases h with rfl | ⟨hw, hst, hcount⟩
  · exact ⟨fun _ => rfl, fun h => absurd rfl h⟩
  · refine ⟨fun he => ?_, fun he => ?_⟩
    · have hblank : v = Window.blank := hv.1 (hst.mp he)
      have hzero : w.inFlight = 0 := by simpa [hblank, Window.blank] using hcount (hst.mp he)
      rw [hw, he, hzero, hblank]
      rfl
    · rw [hw]
      exact hv.2 fun hc => he (hst.mpr hc)

/-- Records that are disjoint stay disjoint. -/
theorem overlaps_follows {v v' w w' : Window} (hv : v.Follows v') (hw : w.Follows w') (h : v.overlaps w = false) :
    v'.overlaps w' = false := by
  rcases hv with rfl | ⟨hv', hvs, -⟩
  · simp [Window.overlaps, Window.blank]
  · rcases hw with rfl | ⟨hw', hws, -⟩
    · simp [Window.overlaps, Window.blank]
    · rw [← h]
      unfold Window.overlaps
      rw [hv', hw']
      simp only [ne_eq, hvs, hws]

/-! ## What an event does to the table -/

/-- Every window record of `t` follows from that of `s`. -/
def WindowsFollow (s t : State) : Prop := ∀ w : WindowId, s.windows[w].Follows t.windows[w]

theorem WindowsFollow.refl (s : State) : WindowsFollow s s := fun _ => .refl _

theorem WindowsFollow.trans {s t u : State} (hst : WindowsFollow s t) (htu : WindowsFollow t u) : WindowsFollow s u :=
  fun w => (hst w).trans (htu w)

/-- What leaves the windows as they are keeps that they follow. -/
theorem windowsFollow_readsOnly (s : State) : ReadsOnly [.windows] (WindowsFollow s) := by
  intro t u h htu w
  have hw : u.windows = t.windows := h .windows (by simp)
  rw [hw]
  exact htu w

theorem windowsFollow_of_eq {s t : State} (h : t.windows = s.windows) : WindowsFollow s t :=
  windowsFollow_readsOnly s s t (by simpa [Block.same] using h) (.refl s)

theorem windowsOk_readsOnly : ReadsOnly [.windows] WindowsOk := by
  intro s t h hs
  have hw : t.windows = s.windows := h .windows (by simp)
  unfold WindowsOk
  rw [hw]
  exact hs

/-- The windows stay in range and disjoint while they follow (R1, R12). -/
theorem windowsOk_of_follow {s t : State} (hs : WindowsOk s) (h : WindowsFollow s t) : WindowsOk t :=
  ⟨fun w => windowOk_of_follows (hs.1 w) (h w), fun v w hvw => overlaps_follows (h v) (h w) (hs.2 v w hvw)⟩

/-! ## The shared operations -/

theorem setWindow_follow {s : State} {w : WindowId} {x : Window} (h : s.windows[w].Follows x) :
    WindowsFollow s (s.setWindow w x) := by
  intro v
  by_cases hv : v = w
  · subst hv
    rw [setWindow_self]
    exact h
  · rw [setWindow_other s w x v hv]
    exact .refl _

theorem uncount_follow (s : State) (k : WindowId → Nat) : WindowsFollow s (s.uncount k) := by
  intro w
  rw [uncount_windows]
  exact .lower (Nat.sub_le _ _)

theorem settle_follow (s : State) (ws : WindowId → Bool) (bs : BranchId → Bool) : WindowsFollow s (s.settle ws bs) := by
  intro w
  rw [settle_windows]
  split
  · exact .blank _
  · exact .refl _

theorem answerEntry_follow (s : State) (e : EntryId) (h : Held) (o : Bool) (st : ReplyStatus) (ws : List Word) :
    WindowsFollow s (s.answerEntry e h o st ws) := by
  unfold State.answerEntry
  refine .trans ?_ (settle_follow _ _ _)
  exact .trans (windowsFollow_of_eq (by simp)) (uncount_follow _ _)

theorem lose_follow (s : State) (b : BranchId) (st : BranchState) : WindowsFollow s (s.lose b st) := by
  intro w
  rw [lose_windows]
  split
  · exact .blank _
  · exact .lower (Nat.sub_le _ _)

theorem lossBy_follow (s : State) (b : BranchId) (cause : LossCause) : WindowsFollow s (s.lossBy b cause) := by
  unfold State.lossBy
  exact .trans (lose_follow s b s.branches[b].outOfService) (windowsFollow_of_eq (by simp))

theorem branchCheckFails_follow (s : State) (b : BranchId) : WindowsFollow s (s.branchCheckFails b) := by
  unfold State.branchCheckFails
  split
  · exact .trans (windowsFollow_of_eq (by simp)) (lossBy_follow _ _ _)
  · exact .refl s

theorem trunkReset_windows (s : State) (sends : Bool) (w : WindowId) :
    (s.trunkReset sends).windows[w] = s.windows[w].trunkReset := by
  simp [State.trunkReset]

theorem trunkReset_follow (s : State) (sends : Bool) : WindowsFollow s (s.trunkReset sends) := by
  intro w
  rw [trunkReset_windows]
  unfold Window.trunkReset
  split
  · exact .blank _
  · exact .lower (Nat.zero_le _)
  · exact .lower (Nat.zero_le _)

theorem trunkCheckFails_follow (s : State) : WindowsFollow s s.trunkCheckFails := by
  unfold State.trunkCheckFails
  split
  · exact trunkReset_follow s true
  · exact .refl s

theorem clearPath_follow (s : State) : WindowsFollow s s.clearPath := by
  unfold State.clearPath
  refine .trans ?_ (settle_follow _ _ _)
  intro w
  simpa using .lower (Nat.zero_le _)


/-! ## The commands -/

theorem retireWindow_follow (c : Control) (w : WindowId) (s : State) : WindowsFollow s (s.retireWindow c w) := by
  unfold State.retireWindow
  split
  case h_1 => exact .refl s
  case h_2 => exact .refl s
  case h_3 hlive =>
    split
    · exact setWindow_follow (.blank _)
    · split
      · exact .refl s
      · exact setWindow_follow (.occupied (by rw [hlive]; decide) (by decide))

theorem fenceBranch_windows (c : Control) (b : BranchId) (lend : Bool) (s : State) :
    (s.fenceBranch c b lend).windows = s.windows := by
  unfold State.fenceBranch
  dsimp only
  repeat' split
  all_goals simp

theorem unfenceBranch_windows (c : Control) (b : BranchId) (s : State) : (s.unfenceBranch c b).windows = s.windows := by
  unfold State.unfenceBranch
  dsimp only
  split <;> simp

theorem resetBranch_follow (c : Control) (b : BranchId) (s : State) : WindowsFollow s (s.resetBranch c b) := by
  unfold State.resetBranch State.resetEffects State.resetWork
  split
  · exact .refl s
  · split
    · exact .refl s
    · split
      · exact .trans (lose_follow (s.complete (abortFence b)) b .resetting) (windowsFollow_of_eq (by simp))
      · exact windowsFollow_of_eq (by simp)

theorem matchedReply_follow (b : BranchId) (e : EntryId) (h : Held) (st : ReplyStatus) (data : List Word) (s : State) :
    WindowsFollow s (s.matchedReply b e h st data) := by
  unfold State.matchedReply
  split
  · split
    · exact answerEntry_follow s e h false .ok data
    · exact .trans (answerEntry_follow s e h false .targetError []) (windowsFollow_of_eq (by simp))
  · exact answerEntry_follow s e h false st []

theorem takeReply_follow (b : BranchId) (t : BitVec 6) (st : ReplyStatus) (data : List Word) (s : State) :
    WindowsFollow s (s.takeReply b t st data) := by
  unfold State.takeReply
  split
  · split
    · unfold State.replyTo State.strayReply
      dsimp only
      split <;> (try split) <;> first
        | exact matchedReply_follow _ _ _ _ _ _
        | exact windowsFollow_of_eq (by simp)
    · exact windowsFollow_of_eq (by simp [State.strayReply])
  · exact .refl s

theorem routeVia_follow {r : Request} {w : WindowId} {s : State} (h : s.windows[w].state ≠ .empty) :
    WindowsFollow s (s.routeVia r w) := by
  unfold State.routeVia State.countIn
  dsimp only
  split
  · exact setWindow_follow (.occupied h h)
  · exact .refl s
  · exact setWindow_follow (.occupied h h)


/-- A window named by the search is LIVE (R3). -/
theorem live_of_covers {w : Window} {a : Word} (h : w.covers a = true) : w.state = .live := by
  simp only [Window.covers, Bool.and_eq_true, decide_eq_true_eq] at h
  exact h.1.1

theorem routeExamination_follow (s : State) : Leaves (WindowsFollow s) (execRouteExamination s) := by
  unfold execRouteExamination
  split
  · apply leaves_next
    split
    · unfold State.refuse
      split <;> exact windowsFollow_of_eq (by simp)
    · exact windowsFollow_of_eq (by simp [State.discardDuplicate])
    · exact .refl s
    · rename_i hroute
      have hlive := live_of_covers (examine_route hroute).2.2.1
      exact routeVia_follow (by rw [hlive]; decide)
  · exact leaves_fault

theorem issuePosted_follow (b : BranchId) (s : State) : Leaves (WindowsFollow s) (execIssuePosted b s) := by
  unfold execIssuePosted
  split
  · apply leaves_next
    refine .trans ?_ (settle_follow _ _ _)
    exact .trans (windowsFollow_of_eq (by simp)) (uncount_follow _ _)
  · exact leaves_fault

theorem takeFrame_follow {isRow : Bool} {f : Frame} {checkFails good : State → State} {s : State}
    (hgood : WindowsFollow s (good s)) (hbad : WindowsFollow s (checkFails s)) :
    Leaves (WindowsFollow s) (takeFrame isRow f checkFails good s) :=
  leaves_takeFrame hgood hbad

/-- A control command whose run lets the windows follow lets them follow. -/
theorem command_follow {α : Type} {isRow : Nat → Bool} {operands : Control → Option α} {run : Control → α → State → State}
    {s : State} (hrun : ∀ (c : Control) (a : α) (u : State), WindowsFollow u (run c a u)) :
    Leaves (WindowsFollow s) (takeControl isRow (fun c => withOperands (operands c) c (run c)) s) :=
  leaves_command (windowsFollow_readsOnly s) (by decide) (by decide) (.refl s)
    fun c a u _ hu => hu.trans (hrun c a u)

/-- What leaves the windows alone lets them follow. -/
theorem follow_of_frame {ks : List Block} {s t : State} (h : SameBut ks s t) (hk : ∀ k ∈ [Block.windows], k ∉ ks) :
    WindowsFollow s t :=
  (windowsFollow_readsOnly s).keep h hk (.refl s)

/-- Every command but LOAD-WINDOW lets the windows follow: no record but by LOAD-WINDOW takes a new range (R12). -/
theorem exec_windowsFollow (c : Instr) (hc : c ≠ .loadWindow) (s : State) : Leaves (WindowsFollow s) (exec c s) := by
  by_cases hw : .windows ∉ writes c
  · exact exec_keeps_of_frame (windowsFollow_readsOnly s) (.refl s) (by simpa using hw)
  cases c <;> simp only [exec]
  case loadWindow => exact absurd rfl hc
  case powerOnReset =>
    refine leaves_next fun w => ?_
    have hblank : (State.powerOn s.trunk.partner (Vector.ofFn fun b => s.branches[b].partner) s.pending).windows[w] =
      Window.blank := by simp [State.powerOn]
    rw [hblank]
    exact .blank _
  case trunkCheckFailure => exact leaves_next (trunkCheckFails_follow s)
  case trunkResetSequenceReceived =>
    refine leaves_next ?_
    split
    · exact trunkReset_follow s false
    · exact .refl s
  case trunkPartnerLost =>
    have hlost : WindowsFollow s { s with trunk := { s.trunk with partner := false } } := windowsFollow_of_eq rfl
    refine leaves_next ?_
    split
    · exact hlost.trans (trunkReset_follow _ false)
    all_goals exact windowsFollow_of_eq rfl
  case intakeArrival f => exact takeFrame_follow (follow_of_frame (arrive_frame _ s) (by decide)) (trunkCheckFails_follow s)
  case noticeAck f => exact takeFrame_follow (follow_of_frame (takeAck_frame _ s) (by decide)) (trunkCheckFails_follow s)
  case trunkCreditReceived f => exact takeFrame_follow (.refl s) (trunkCheckFails_follow s)
  case trunkUnexpectedFrame f =>
    exact takeFrame_follow (follow_of_frame (trunkUnexpected_frame _ s) (by decide)) (trunkCheckFails_follow s)
  case routeExamination => exact routeExamination_follow s
  case retireWindow => exact command_follow retireWindow_follow
  case resetBranch => exact command_follow resetBranch_follow
  case clearPath => exact command_follow fun c _ u => (clearPath_follow u).trans (windowsFollow_of_eq (by simp))
  case branchPartnerLost b =>
    refine leaves_next ?_
    split
    · exact .trans (windowsFollow_of_eq (by simp)) (lossBy_follow _ b .signalLost)
    · exact windowsFollow_of_eq (by simp)
  case branchCheckFailure b => exact leaves_next (branchCheckFails_follow s b)
  case branchResetSequenceReceived b =>
    refine leaves_next ?_
    split
    · exact lossBy_follow s b .partnerReset
    · exact .refl s
  case stallTimerExpiry b =>
    exact leaves_guard fun _ => .trans (windowsFollow_of_eq (by simp)) (lossBy_follow _ b .stall)
  case branchReply b f => exact takeFrame_follow (takeReply_follow b _ _ _ s) (branchCheckFails_follow s b)
  case branchCredit b f =>
    exact takeFrame_follow (follow_of_frame (takeCredit_frame b _ s) (by decide)) (branchCheckFails_follow s b)
  case branchNotice b f =>
    exact takeFrame_follow (follow_of_frame (takeNotice_frame b _ s) (by decide)) (branchCheckFails_follow s b)
  case withdraw b f =>
    exact takeFrame_follow (follow_of_frame (takeWithdraw_frame b s) (by decide)) (branchCheckFails_follow s b)
  case unitReturn b f =>
    exact takeFrame_follow (follow_of_frame (takeReturn_frame b s) (by decide)) (branchCheckFails_follow s b)
  case branchUnexpectedFrame b f =>
    exact takeFrame_follow (follow_of_frame (branchUnexpected_frame b _ s) (by decide)) (branchCheckFails_follow s b)
  case issuePosted b => exact issuePosted_follow b s
  case requestDeadlineExpiry e =>
    unfold execRequestDeadlineExpiry
    split
    · exact leaves_guard fun _ => answerEntry_follow s e _ true .timeout []
    all_goals exact leaves_fault
  case drainComplete b => exact leaves_next (settle_follow s _ _)
  case retireComplete w => exact leaves_next (settle_follow s _ _)
  all_goals simp [writes, controlAnswerBlocks, attentionBlocks] at hw

end Sys2Proof.Machine
end

section
/-! The bounds of the Fault Queue, the counters and the resend counts (R114, R188, R192). -/

namespace Sys2Proof.Machine

open Sys2Proof.Safety

/-! ## The counters -/

/-- No counter is past 65535 (R192). -/
def CountersOk (c : Counters) : Prop :=
  c.lateReplies ≤ Config.counterMax ∧ c.coalesced ≤ Config.counterMax ∧ c.strayAcks ≤ Config.counterMax ∧
  c.resends ≤ Config.counterMax ∧ c.trunkResets ≤ Config.counterMax ∧ c.faultOverflows ≤ Config.counterMax

theorem countsOk_iff (s : State) : CountsOk s ↔
    s.faults.length ≤ Config.faultCapacity ∧ CountersOk s.counters ∧ ∀ d ∈ s.deliveries, d.resends ≤ Config.counterMax := by
  simp [CountsOk, CountersOk, and_assoc]

theorem countsOk_readsOnly : ReadsOnly [.faults, .counters, .deliveries] CountsOk := by
  intro s t h hs
  have hf : t.faults = s.faults := h .faults (by simp)
  have hc : t.counters = s.counters := h .counters (by simp)
  have hd : t.deliveries = s.deliveries := h .deliveries (by simp)
  rw [countsOk_iff] at hs ⊢
  rwa [hf, hc, hd]

/-- What leaves the three blocks keeps the bounds. -/
theorem countsOk_of_eq {s t : State} (hs : CountsOk s) (hf : t.faults = s.faults) (hc : t.counters = s.counters)
    (hd : t.deliveries = s.deliveries) : CountsOk t :=
  countsOk_readsOnly s t (by simp [Block.same, hf, hc, hd]) hs

/-- New counters within their bound keep the bounds. -/
theorem countsOk_counters {s t : State} (hs : CountsOk s) (hf : t.faults = s.faults) (hc : CountersOk t.counters)
    (hd : t.deliveries = s.deliveries) : CountsOk t := by
  rw [countsOk_iff] at hs ⊢
  obtain ⟨hfaults, -, hdeliveries⟩ := hs
  exact ⟨by rwa [hf], hc, by rwa [hd]⟩

theorem CountersOk.zero : CountersOk Counters.zero := by
  simp [CountersOk, Counters.zero]

theorem CountersOk.late {c : Counters} (h : CountersOk c) : CountersOk { c with lateReplies := bump c.lateReplies } := by
  obtain ⟨h1, h2, h3, h4, h5, h6⟩ := h
  exact ⟨bump_le h1, h2, h3, h4, h5, h6⟩

theorem CountersOk.coalesce {c : Counters} (h : CountersOk c) : CountersOk { c with coalesced := bump c.coalesced } := by
  obtain ⟨h1, h2, h3, h4, h5, h6⟩ := h
  exact ⟨h1, bump_le h2, h3, h4, h5, h6⟩

theorem CountersOk.strayAck {c : Counters} (h : CountersOk c) : CountersOk { c with strayAcks := bump c.strayAcks } := by
  obtain ⟨h1, h2, h3, h4, h5, h6⟩ := h
  exact ⟨h1, h2, bump_le h3, h4, h5, h6⟩

theorem CountersOk.resend {c : Counters} (h : CountersOk c) : CountersOk { c with resends := bump c.resends } := by
  obtain ⟨h1, h2, h3, h4, h5, h6⟩ := h
  exact ⟨h1, h2, h3, bump_le h4, h5, h6⟩

theorem CountersOk.trunkReset {c : Counters} (h : CountersOk c) : CountersOk { c with trunkResets := bump c.trunkResets } := by
  obtain ⟨h1, h2, h3, h4, h5, h6⟩ := h
  exact ⟨h1, h2, h3, h4, bump_le h5, h6⟩

theorem CountersOk.overflow {c : Counters} (h : CountersOk c) :
    CountersOk { c with faultOverflows := bump c.faultOverflows } := by
  obtain ⟨h1, h2, h3, h4, h5, h6⟩ := h
  exact ⟨h1, h2, h3, h4, h5, bump_le h6⟩

/-! ## The attention path -/

theorem countCoalesced_counters (s : State) :
    s.countCoalesced.counters = { s.counters with coalesced := bump s.counters.coalesced } := by
  unfold State.countCoalesced
  dsimp only
  split <;> rfl

theorem raise_countsOk {s : State} (n : LineId) (hs : CountsOk s) : CountsOk (s.raise n) := by
  have hc : CountersOk s.counters := ((countsOk_iff s).mp hs).2.1
  refine countsOk_counters hs (by simp) ?_ (by simp)
  unfold State.raise
  dsimp only
  split
  · rw [countCoalesced_counters]
    exact hc.coalesce
  · exact hc

theorem signalIf_countsOk {s : State} (x : Bool) (hs : CountsOk s) : CountsOk (s.signalIf x) := by
  unfold State.signalIf
  split
  · exact raise_countsOk _ hs
  · exact hs

/-- A count keeps the bounds: its counter is within its bound, and the raise of I6 keeps them (R192). -/
theorem count_countsOk {s : State} {c : Counters} (x : Bool) (hs : CountsOk s) (hc : CountersOk c) :
    CountsOk (State.signalIf x { s with counters := c }) :=
  signalIf_countsOk x (countsOk_counters hs rfl hc rfl)

theorem countsOk_countersOk {s : State} (hs : CountsOk s) : CountersOk s.counters := ((countsOk_iff s).mp hs).2.1

theorem recordFault_countsOk {s : State} (f : FaultRecord) (hs : CountsOk s) : CountsOk (s.recordFault f) := by
  unfold State.recordFault
  split
  case isTrue hroom =>
    refine raise_countsOk _ ?_
    rw [countsOk_iff] at hs ⊢
    obtain ⟨-, hcounters, hdeliveries⟩ := hs
    exact ⟨by simpa using hroom, hcounters, hdeliveries⟩
  case isFalse => exact raise_countsOk _ (count_countsOk _ hs (countsOk_countersOk hs).overflow)

/-! ## The shared operations -/

/-- What leaves the Fault Queue, the counters and the Delivery List keeps the bounds. -/
theorem countsOk_of_frame {ks : List Block} {s t : State} (hs : CountsOk s) (h : SameBut ks s t)
    (hk : ∀ k ∈ [Block.faults, .counters, .deliveries], k ∉ ks) : CountsOk t :=
  countsOk_readsOnly.keep h hk hs

theorem lossBy_countsOk {s : State} (b : BranchId) (cause : LossCause) (hs : CountsOk s) : CountsOk (s.lossBy b cause) := by
  unfold State.lossBy
  exact recordFault_countsOk _ (raise_countsOk _ (countsOk_of_eq hs (by simp) (by simp) (by simp)))

theorem setBranch_countsOk {s : State} (b : BranchId) (br : Branch) (hs : CountsOk s) : CountsOk (s.setBranch b br) :=
  countsOk_of_frame hs (setBranch_frame s b br) (by decide)

theorem branchCheckFails_countsOk {s : State} (b : BranchId) (hs : CountsOk s) : CountsOk (s.branchCheckFails b) := by
  unfold State.branchCheckFails
  split
  · exact lossBy_countsOk b .check (setBranch_countsOk b _ hs)
  · exact hs

/-- Fewer deliveries, each with the resend count it had, keep the bounds. -/
theorem countsOk_deliveries {s t : State} (hs : CountsOk s) (hf : t.faults = s.faults) (hc : t.counters = s.counters)
    (hd : ∀ d ∈ t.deliveries, d ∈ s.deliveries ∨ d.resends ≤ Config.counterMax) : CountsOk t := by
  rw [countsOk_iff] at hs ⊢
  obtain ⟨hfaults, hcounters, hdeliveries⟩ := hs
  exact ⟨by rwa [hf], by rwa [hc], fun d hm => (hd d hm).elim (hdeliveries d) id⟩

theorem trunkReset_countsOk {s : State} (sends : Bool) (hs : CountsOk s) : CountsOk (s.trunkReset sends) := by
  unfold State.trunkReset
  refine count_countsOk _ ?_ (countsOk_countersOk hs).trunkReset
  exact countsOk_deliveries hs rfl rfl (by simp)

theorem trunkCheckFails_countsOk {s : State} (hs : CountsOk s) : CountsOk s.trunkCheckFails := by
  unfold State.trunkCheckFails
  split
  · exact trunkReset_countsOk true hs
  · exact hs

/-- What `updateFirst` leaves in the list was there, or is the update of a record that was there. -/
theorem mem_updateFirst {p : Delivery → Bool} {f : Delivery → Delivery} {ds : List Delivery} {d : Delivery}
    (h : d ∈ updateFirst p f ds) : d ∈ ds ∨ ∃ x ∈ ds, d = f x := by
  induction ds with
  | nil => cases h
  | cons x xs ih =>
    unfold updateFirst at h
    split at h
    · rcases List.mem_cons.mp h with rfl | hd
      · exact .inr ⟨x, by simp, rfl⟩
      · exact .inl (List.mem_cons_of_mem x hd)
    · rcases List.mem_cons.mp h with rfl | hd
      · exact .inl (by simp)
      · exact (ih hd).imp (List.mem_cons_of_mem x) fun ⟨y, hy, he⟩ => ⟨y, List.mem_cons_of_mem x hy, he⟩

/-- An update of records that keeps the bound of their resend counts keeps the bounds. -/
theorem updateFirst_countsOk {s : State} (p : Delivery → Bool) {f : Delivery → Delivery} (hs : CountsOk s)
    (hf : ∀ d, d.resends ≤ Config.counterMax → (f d).resends ≤ Config.counterMax) :
    CountsOk { s with deliveries := updateFirst p f s.deliveries } := by
  have hdeliveries := ((countsOk_iff s).mp hs).2.2
  refine countsOk_deliveries hs rfl rfl fun d hd => ?_
  rcases mem_updateFirst hd with h | ⟨x, hx, rfl⟩
  · exact .inl h
  · exact .inr (hf x (hdeliveries x hx))

end Sys2Proof.Machine
end

section
namespace Sys2Proof.Machine

open Sys2Proof.Safety

/-! ## Frames received and control commands -/

theorem arrive_countsOk {s : State} (x : IntakeFrame) (hs : CountsOk s) : CountsOk (s.arrive x) := by
  unfold State.arrive
  split
  · exact hs
  · split
    · exact countsOk_of_eq hs rfl rfl rfl
    · exact recordFault_countsOk _ hs

theorem takeAck_countsOk {s : State} (v : BitVec 8) (hs : CountsOk s) : CountsOk (s.takeAck v) := by
  unfold State.takeAck
  split
  · exact hs
  · split
    · exact countsOk_deliveries hs (by simp [State.acknowledge]) (by simp [State.acknowledge])
        fun d hd => .inl (List.mem_of_mem_eraseP (by simpa [State.acknowledge] using hd))
    · exact count_countsOk _ hs (countsOk_countersOk hs).strayAck

theorem trunkUnexpected_countsOk {s : State} (k : BitVec 4) (hs : CountsOk s) : CountsOk (s.trunkUnexpected k) := by
  unfold State.trunkUnexpected
  split
  · exact recordFault_countsOk _ hs
  · exact hs

theorem answerEntry_countsOk {s : State} (e : EntryId) (h : Held) (o : Bool) (st : ReplyStatus) (ws : List Word)
    (hs : CountsOk s) : CountsOk (s.answerEntry e h o st ws) :=
  countsOk_of_frame hs (answerEntry_frame s e h o st ws) (by decide)

theorem lateReply_countsOk {s : State} (e : EntryId) (x : Entry) (hs : CountsOk s) :
    CountsOk (s.setEntry e x).countLate := by
  have hset : CountsOk (s.setEntry e x) := countsOk_of_eq hs rfl rfl rfl
  exact count_countsOk _ hset (countsOk_countersOk hset).late

theorem takeReply_countsOk {s : State} (b : BranchId) (t : BitVec 6) (st : ReplyStatus) (data : List Word) (hs : CountsOk s) :
    CountsOk (s.takeReply b t st data) := by
  have hstray (k : BitVec 6) : CountsOk (s.strayReply b k) := recordFault_countsOk _ hs
  have hmatched (e : EntryId) (h : Held) : CountsOk (s.matchedReply b e h st data) := by
    unfold State.matchedReply
    split
    · split
      · exact answerEntry_countsOk e h false .ok data hs
      · exact recordFault_countsOk _ (answerEntry_countsOk e h false .targetError [] hs)
    · exact answerEntry_countsOk e h false st [] hs
  unfold State.takeReply State.replyTo
  dsimp only
  split
  · split
    · split
      case h_1 =>
        split
        · exact hmatched _ _
        · exact hstray _
      case h_2 =>
        split
        · exact lateReply_countsOk _ _ hs
        · exact hstray _
      case h_3 =>
        split
        · exact lateReply_countsOk _ _ hs
        · exact hstray _
      all_goals exact hstray _
    · exact hstray _
  · exact hs

theorem takeCredit_countsOk {s : State} (b : BranchId) (n : Nat) (hs : CountsOk s) : CountsOk (s.takeCredit b n) := by
  unfold State.takeCredit
  dsimp only
  split
  · split
    · exact setBranch_countsOk b _ hs
    · exact recordFault_countsOk _ (setBranch_countsOk b _ hs)
  · exact hs

theorem takeNotice_countsOk {s : State} (b : BranchId) (v : BitVec 8) (hs : CountsOk s) : CountsOk (s.takeNotice b v) := by
  unfold State.takeNotice
  split
  · split
    · exact raise_countsOk _ hs
    · exact recordFault_countsOk _ hs
  · exact hs

theorem takeWithdraw_countsOk {s : State} (b : BranchId) (hs : CountsOk s) : CountsOk (s.takeWithdraw b) := by
  unfold State.takeWithdraw State.wrongMoment
  split
  case h_4 => exact recordFault_countsOk _ hs
  case h_1 => exact raise_countsOk _ (setBranch_countsOk b _ hs)
  case h_2 => exact raise_countsOk _ (setBranch_countsOk b _ hs)
  case h_3 => exact raise_countsOk _ (setBranch_countsOk b _ hs)
  all_goals exact hs

theorem takeReturn_countsOk {s : State} (b : BranchId) (hs : CountsOk s) : CountsOk (s.takeReturn b) := by
  unfold State.takeReturn State.wrongMoment
  split
  case h_1 => exact raise_countsOk _ (setBranch_countsOk b _ hs)
  case h_2 => exact recordFault_countsOk _ hs
  case h_3 => exact recordFault_countsOk _ hs
  case h_4 => exact recordFault_countsOk _ hs
  all_goals exact hs

theorem branchUnexpected_countsOk {s : State} (b : BranchId) (k : BitVec 4) (hs : CountsOk s) :
    CountsOk (s.branchUnexpected b k) := by
  unfold State.branchUnexpected
  split
  · exact recordFault_countsOk _ hs
  · exact hs

theorem resetBranch_countsOk {s : State} (c : Control) (b : BranchId) (hs : CountsOk s) : CountsOk (s.resetBranch c b) := by
  unfold State.resetBranch
  split
  · exact countsOk_of_eq hs rfl rfl rfl
  · split
    · exact countsOk_of_eq hs rfl rfl rfl
    · have hwork : CountsOk (s.resetWork c.seq b) := by
        unfold State.resetWork
        split
        · exact recordFault_countsOk _ (countsOk_of_eq hs (by simp) (by simp) (by simp))
        · exact countsOk_of_eq hs rfl rfl rfl
      exact countsOk_of_eq hwork rfl rfl rfl

theorem branchTrained_countsOk {s : State} (b : BranchId) (n : Nat) (hs : CountsOk s) : CountsOk (s.branchTrained b n) := by
  unfold State.branchTrained
  dsimp only
  split
  case h_1 => exact raise_countsOk _ (setBranch_countsOk b _ hs)
  case h_2 => exact raise_countsOk _ (countsOk_of_eq hs rfl rfl rfl)
  all_goals exact hs

theorem refuse_countsOk {s : State} (r : Request) (st : ReplyStatus) (b : Option BranchId) (hs : CountsOk s) :
    CountsOk (s.refuse r st b) := by
  unfold State.refuse
  split
  · exact recordFault_countsOk _ (countsOk_of_eq hs rfl rfl rfl)
  · exact countsOk_of_eq hs rfl rfl rfl

theorem routeExamination_countsOk {s : State} (hs : CountsOk s) : Leaves CountsOk (execRouteExamination s) := by
  unfold execRouteExamination
  split
  · have htaken (rest : List IntakeFrame) : CountsOk { s with intake := rest } := countsOk_of_eq hs rfl rfl rfl
    apply leaves_next
    split
    · exact refuse_countsOk _ _ _ (htaken _)
    · exact recordFault_countsOk _ (countsOk_of_eq hs rfl rfl rfl)
    · exact hs
    · exact countsOk_of_frame (htaken _) (routeVia_frame _ _ _) (by decide)
  · exact leaves_fault

theorem transmit_countsOk {s : State} (f : TrunkFrame) (p : Source) (hs : CountsOk s) : CountsOk (s.transmit f p) :=
  countsOk_of_eq hs rfl rfl rfl

theorem sendNotice_countsOk {s : State} (hs : CountsOk s) : Leaves CountsOk (execSendNotice s) := by
  unfold execSendNotice
  split
  · have hsent (deadline : Time) (d : Delivery) (h : d.resends ≤ Config.counterMax) :
        (Delivery.sendNow deadline d).resends ≤ Config.counterMax := by
      unfold Delivery.sendNow
      dsimp only
      split
      · exact bump_le h
      · exact h
    have hupdate := updateFirst_countsOk Delivery.due hs (hsent (s.timeBase + s.timing.rsnd))
    apply leaves_next
    split
    · exact count_countsOk _ (transmit_countsOk _ _ hupdate) (countsOk_countersOk hupdate).resend
    · exact transmit_countsOk _ _ hupdate
  · exact leaves_fault

theorem selection_countsOk {s : State} (hs : CountsOk s) : Leaves CountsOk (execSelection s) := by
  unfold execSelection
  split
  · split
    · refine leaves_next (countsOk_deliveries hs rfl rfl fun d hd => ?_)
      rcases List.mem_append.mp hd with h | h
      · exact .inl h
      · exact .inr (by simp [List.mem_singleton.mp h])
    · exact leaves_fault
  · exact leaves_fault

/-! ## Every command -/

/-- A control command whose run keeps the bounds keeps them. -/
theorem command_countsOk {α : Type} {isRow : Nat → Bool} {operands : Control → Option α} {run : Control → α → State → State}
    {s : State} (hs : CountsOk s) (hrun : ∀ (c : Control) (a : α) (u : State), CountsOk u → CountsOk (run c a u)) :
    Leaves CountsOk (takeControl isRow (fun c => withOperands (operands c) c (run c)) s) :=
  leaves_command countsOk_readsOnly (by decide) (by decide) hs fun c a u _ hu => hrun c a u hu

/-- Every command keeps the bounds of the Fault Queue, the counters and the resend counts. -/
theorem exec_countsOk (c : Instr) {s : State} (hs : CountsOk s) : Leaves CountsOk (exec c s) := by
  by_cases hw : ∀ k ∈ [Block.faults, .counters, .deliveries], k ∉ writes c
  · exact exec_keeps_of_frame countsOk_readsOnly hs hw
  cases c <;> simp only [exec]
  case powerOnReset =>
    exact leaves_next ((countsOk_iff _).mpr ⟨by simp [State.powerOn], CountersOk.zero, by simp [State.powerOn]⟩)
  case trunkTrainingComplete =>
    have hup : CountsOk s.trunkUp := by
      unfold State.trunkUp
      dsimp only
      split
      · exact raise_countsOk _ (countsOk_of_eq hs rfl rfl rfl)
      · exact countsOk_of_eq hs rfl rfl rfl
    refine leaves_next ?_
    split
    · exact hup
    · exact hs
  case trunkCheckFailure => exact leaves_next (trunkCheckFails_countsOk hs)
  case trunkResetSequenceReceived =>
    refine leaves_next ?_
    split
    · exact trunkReset_countsOk false hs
    · exact hs
  case trunkPartnerLost =>
    have hlost : CountsOk { s with trunk := { s.trunk with partner := false } } := countsOk_of_eq hs rfl rfl rfl
    refine leaves_next ?_
    split
    · exact trunkReset_countsOk false hlost
    all_goals exact countsOk_of_eq hs rfl rfl rfl
  case intakeArrival f => exact leaves_takeFrame (arrive_countsOk _ hs) (trunkCheckFails_countsOk hs)
  case noticeAck f => exact leaves_takeFrame (takeAck_countsOk _ hs) (trunkCheckFails_countsOk hs)
  case trunkCreditReceived f => exact leaves_takeFrame hs (trunkCheckFails_countsOk hs)
  case trunkUnexpectedFrame f => exact leaves_takeFrame (trunkUnexpected_countsOk _ hs) (trunkCheckFails_countsOk hs)
  case sendNotice => exact sendNotice_countsOk hs
  case routeExamination => exact routeExamination_countsOk hs
  case resetBranch => exact command_countsOk hs fun c b u hu => resetBranch_countsOk c b hu
  case takeFaults =>
    refine command_countsOk hs fun c n u hu => ?_
    rw [countsOk_iff] at hu ⊢
    obtain ⟨hfaults, hrest⟩ := hu
    refine ⟨le_trans ?_ hfaults, hrest⟩
    simp
  case clearCounters => exact command_countsOk hs fun c _ u hu => countsOk_counters hu rfl CountersOk.zero rfl
  case branchTrainingComplete b n =>
    refine leaves_next ?_
    split
    · exact hs
    · exact branchTrained_countsOk b _ hs
  case branchPartnerLost b =>
    refine leaves_next ?_
    split
    · exact lossBy_countsOk b .signalLost (setBranch_countsOk b _ hs)
    · exact setBranch_countsOk b _ hs
  case branchCheckFailure b => exact leaves_next (branchCheckFails_countsOk b hs)
  case branchResetSequenceReceived b =>
    refine leaves_next ?_
    split
    · exact lossBy_countsOk b .partnerReset hs
    · exact hs
  case stallTimerExpiry b => exact leaves_guard fun _ => lossBy_countsOk b .stall (setBranch_countsOk b _ hs)
  case branchReply b f => exact leaves_takeFrame (takeReply_countsOk b _ _ _ hs) (branchCheckFails_countsOk b hs)
  case branchCredit b f => exact leaves_takeFrame (takeCredit_countsOk b _ hs) (branchCheckFails_countsOk b hs)
  case branchNotice b f => exact leaves_takeFrame (takeNotice_countsOk b _ hs) (branchCheckFails_countsOk b hs)
  case withdraw b f => exact leaves_takeFrame (takeWithdraw_countsOk b hs) (branchCheckFails_countsOk b hs)
  case unitReturn b f => exact leaves_takeFrame (takeReturn_countsOk b hs) (branchCheckFails_countsOk b hs)
  case branchUnexpectedFrame b f =>
    exact leaves_takeFrame (branchUnexpected_countsOk b _ hs) (branchCheckFails_countsOk b hs)
  case resendDeadlineExpiry n => exact leaves_guard fun _ => updateFirst_countsOk _ hs fun _ h => h
  case selection => exact selection_countsOk hs
  all_goals simp [writes, controlAnswerBlocks, entryAnswerBlocks, completionBlocks] at hw

end Sys2Proof.Machine
end

section
namespace Sys2Proof.Machine
open Sys2Proof.Safety
/-! ## LOAD-WINDOW -/

/-- The ranges that LOAD-WINDOW's operands have when they read (R11). -/
theorem loadWindowOperands_ranges {ws : List Word} {o : LoadWindowOperands} (h : LoadWindowOperands.read ws = some o) :
    1 ≤ o.sizePages ∧ o.basePage + o.sizePages ≤ Config.addressPages ∧ o.targetPage + o.sizePages ≤ Config.addressPages := by
  unfold LoadWindowOperands.read at h
  split at h
  · split at h
    · split at h
      · rename_i hr
        obtain ⟨-, hsize, hbase, htarget, -⟩ := hr
        cases h
        exact ⟨hsize, hbase, htarget⟩
      · cases h
    · cases h
  · cases h

/-- The record that LOAD-WINDOW places is in range. -/
theorem loadedWindow_ok {ws : List Word} {o : LoadWindowOperands} (h : LoadWindowOperands.read ws = some o) :
    WindowOk o.window := by
  obtain ⟨hsize, hbase, htarget⟩ := loadWindowOperands_ranges h
  refine ⟨fun he => WindowState.noConfusion he, fun _ => ?_⟩
  simp only [LoadWindowOperands.window, Config.pageBytes, Config.addressPages] at hbase htarget ⊢
  omega

theorem overlaps_comm (v w : Window) : v.overlaps w = w.overlaps v := by
  rw [Bool.eq_iff_iff]
  simp only [Window.overlaps, Bool.and_eq_true]
  tauto

/-- A record in range that overlaps no other keeps the windows in range and disjoint. -/
theorem setWindow_windowsOk {s : State} {i : WindowId} {x : Window} (hs : WindowsOk s) (hx : WindowOk x)
    (hfree : ∀ v : WindowId, s.windows[v].overlaps x = false) : WindowsOk (s.setWindow i x) := by
  obtain ⟨hok, hdisjoint⟩ := hs
  refine ⟨fun w => ?_, fun v w hvw => ?_⟩
  · by_cases hw : w = i
    · rw [hw, setWindow_self]
      exact hx
    · rw [setWindow_other s i x w hw]
      exact hok w
  · by_cases hv : v = i
    · have hw : w ≠ i := fun h => hvw (hv.trans h.symm)
      rw [hv, setWindow_self, setWindow_other s i x w hw, overlaps_comm]
      exact hfree w
    · rw [setWindow_other s i x v hv]
      by_cases hw : w = i
      · rw [hw, setWindow_self]
        exact hfree v
      · rw [setWindow_other s i x w hw]
        exact hdisjoint v w hvw

theorem loadWindow_windowsOk {s : State} {ws : List Word} {o : LoadWindowOperands} (c : Control) (hs : WindowsOk s)
    (ho : LoadWindowOperands.read ws = some o) : WindowsOk (s.loadWindow c o) := by
  unfold State.loadWindow
  split
  · exact hs
  · split
    · exact hs
    case isFalse hfree =>
      have hset : WindowsOk (s.setWindow o.index o.window) :=
        setWindow_windowsOk hs (loadedWindow_ok ho) (by simpa using hfree)
      exact hset

/-- Every command keeps the windows in range and disjoint (R1, R12). -/
theorem exec_windowsOk (c : Instr) {s : State} (hs : WindowsOk s) : Leaves WindowsOk (exec c s) := by
  by_cases hc : c = .loadWindow
  · subst hc
    show Leaves WindowsOk (execLoadWindow s)
    exact leaves_command windowsOk_readsOnly (by decide) (by decide) hs fun c o u ho hu => loadWindow_windowsOk c hu ho
  · exact fun t ht => windowsOk_of_follow hs (exec_windowsFollow c hc s t ht)

/-- A microsecond changes the Time Base alone (R44). -/
theorem tick_frame (s : State) : SameBut [.timeBase] s s.tick := by
  unfold State.tick
  split
  · exact sameBut_refl _ s
  · simp [sameBut_iff]

/-- An invariant that does not read the Time Base is kept by every step when every command keeps it. -/
theorem step_keeps {ks : List Block} {P : State → Prop} (hP : ReadsOnly ks P) (hk : .timeBase ∉ ks)
    (hexec : ∀ (c : Instr) (s : State), P s → Leaves P (exec c s)) {s : State} (hs : P s) : Leaves P (step s) :=
  leaves_step (hP.keep (tick_frame s) (by rintro k hm h; rw [List.mem_singleton.mp h] at hm; exact hk hm) hs)
    fun c rest => hexec c _ (hP _ _ (same_pending ks s rest) hs)

/-- Settles O56: all commands but LOAD-WINDOW let the windows follow, LOAD-WINDOW loads a range that overlaps none, and every count
stops at its bound. -/
theorem invariantWindowsAndCounts : Obligations.InvariantWindowsAndCounts := by
  intro s t h
  exact ⟨fun hs => step_keeps windowsOk_readsOnly (by decide) (fun c _ => exec_windowsOk c) hs t h,
    fun hs => step_keeps countsOk_readsOnly (by decide) (fun c _ => exec_countsOk c) hs t h⟩

end Sys2Proof.Machine
end

section
/-! The counted work of a window as a sum over the entries and the branches (R10), and what a change of one entry or of one queue
makes of it. -/

namespace Sys2Proof.Machine

open Sys2Proof.Safety

/-! ## Sums over a table -/

/-- Counting over a table is summing ones. -/
theorem countP_finRange_eq_sum {n : Nat} (p : Fin n → Bool) :
    (List.finRange n).countP p = ∑ i : Fin n, if p i then 1 else 0 := by
  rw [Fin.sum_univ_def]
  induction List.finRange n with
  | nil => rfl
  | cons i is ih => simp [List.countP_cons, ih, Nat.add_comm]

/-- Two sums that differ at one index differ by its terms. -/
theorem sum_change_one {n : Nat} {f g : Fin n → Nat} (i : Fin n) (h : ∀ j, j ≠ i → g j = f j) :
    ∑ j, g j + f i = ∑ j, f j + g i := by
  have hrest : ∑ j ∈ Finset.univ.erase i, g j = ∑ j ∈ Finset.univ.erase i, f j :=
    Finset.sum_congr rfl fun j hj => h j (Finset.ne_of_mem_erase hj)
  have hg := Finset.add_sum_erase Finset.univ g (Finset.mem_univ i)
  have hf := Finset.add_sum_erase Finset.univ f (Finset.mem_univ i)
  omega

/-! ## The work of one entry and of one queue -/

/-- The counted work of entry `x` for window `w` on the branches of `p` (R10). -/
def entryWork (p : BranchId → Bool) (w : WindowId) (x : Entry) : Nat :=
  match x.counted with
  | some h => if p h.branch && decide (h.window = w) then 1 else 0
  | none => 0

theorem entryWork_of_not_counted {p : BranchId → Bool} {w : WindowId} {x : Entry} (h : x.counted = none) :
    entryWork p w x = 0 := by
  simp [entryWork, h]

@[simp] theorem entryWork_free (p : BranchId → Bool) (w : WindowId) : entryWork p w .free = 0 := rfl

@[simp] theorem entryWork_answered (p : BranchId → Bool) (w : WindowId) (h : Held) (o : Bool) :
    entryWork p w (.answered h o) = 0 := rfl

@[simp] theorem entryWork_linger (p : BranchId → Bool) (w : WindowId) (h : Held) (d : Time) :
    entryWork p w (.linger h d) = 0 := rfl

@[simp] theorem entryWork_queued (p : BranchId → Bool) (w : WindowId) (h : Held) (data : List Word) :
    entryWork p w (.queued h data) = if p h.branch && decide (h.window = w) then 1 else 0 := rfl

@[simp] theorem entryWork_issued (p : BranchId → Bool) (w : WindowId) (h : Held) (d : Time) :
    entryWork p w (.issued h d) = if p h.branch && decide (h.window = w) then 1 else 0 := rfl

/-- The counted work of queue `q` for window `w`: its posted items (R10). -/
def queueWork (w : WindowId) (q : List Item) : Nat := q.countP (Item.postedVia w)

@[simp] theorem queueWork_nil (w : WindowId) : queueWork w [] = 0 := rfl

theorem queueWork_append (w : WindowId) (q r : List Item) : queueWork w (q ++ r) = queueWork w q + queueWork w r :=
  List.countP_append

theorem queueWork_cons (w : WindowId) (i : Item) (q : List Item) :
    queueWork w (i :: q) = queueWork w q + queueWork w [i] := by
  simp [queueWork, List.countP_cons]

@[simp] theorem queueWork_nonPosted (w : WindowId) (e : EntryId) : queueWork w [.nonPosted e] = 0 := rfl

@[simp] theorem queueWork_posted (w v : WindowId) (a : Word) (l : BitVec 5) (k : BitVec 3) (data : List Word) :
    queueWork w [.posted v a l k data] = if v = w then 1 else 0 := by
  simp [queueWork, Item.postedVia, List.countP_cons]

/-! ## The work of a window -/

/-- The work of a window is the sum of that of the entries and of the queues (R10). -/
theorem workVia_eq_sum (s : State) (p : BranchId → Bool) (w : WindowId) :
    s.workVia p w = ∑ e : EntryId, entryWork p w s.entries[e] +
      ∑ b : BranchId, if p b then queueWork w s.branches[b].queue else 0 := by
  have hentries : (fun e : EntryId => entryWork p w s.entries[e]) =
      fun e : EntryId => if (match s.entries[e].counted with
        | some h => p h.branch && decide (h.window = w)
        | none => false) then 1 else 0 := by
    funext e
    unfold entryWork
    cases s.entries[e].counted <;> simp
  rw [hentries, ← countP_finRange_eq_sum, Fin.sum_univ_def]
  rfl

/-- The work of a window on all branches. -/
def State.work (s : State) (w : WindowId) : Nat := s.workVia (fun _ => true) w

theorem work_eq_sum (s : State) (w : WindowId) :
    s.work w = ∑ e : EntryId, entryWork (fun _ => true) w s.entries[e] + ∑ b : BranchId, queueWork w s.branches[b].queue := by
  simp [State.work, workVia_eq_sum]

/-- The work reads the entries and the queues alone. -/
theorem work_congr {s t : State} (he : t.entries = s.entries)
    (hq : ∀ b : BranchId, t.branches[b].queue = s.branches[b].queue) (w : WindowId) : t.work w = s.work w := by
  simp only [work_eq_sum, he, hq]

/-- The work after a change of entry `e` and of the queue of branch `b`. -/
theorem work_change {s t : State} (e : EntryId) (b : BranchId) (he : OtherEntries e s t)
    (hb : ∀ c : BranchId, c ≠ b → t.branches[c].queue = s.branches[c].queue) (w : WindowId) :
    t.work w + (entryWork (fun _ => true) w s.entries[e] + queueWork w s.branches[b].queue) =
      s.work w + (entryWork (fun _ => true) w t.entries[e] + queueWork w t.branches[b].queue) := by
  have hentries : ∑ f : EntryId, entryWork (fun _ => true) w t.entries[f] + entryWork (fun _ => true) w s.entries[e] =
      ∑ f : EntryId, entryWork (fun _ => true) w s.entries[f] + entryWork (fun _ => true) w t.entries[e] :=
    sum_change_one (f := fun f : EntryId => entryWork (fun _ => true) w s.entries[f])
      (g := fun f : EntryId => entryWork (fun _ => true) w t.entries[f]) e fun f hf => by rw [he f hf]
  have hqueues : ∑ c : BranchId, queueWork w t.branches[c].queue + queueWork w s.branches[b].queue =
      ∑ c : BranchId, queueWork w s.branches[c].queue + queueWork w t.branches[b].queue :=
    sum_change_one (f := fun c : BranchId => queueWork w s.branches[c].queue)
      (g := fun c : BranchId => queueWork w t.branches[c].queue) b fun c hc => by rw [hb c hc]
  rw [work_eq_sum, work_eq_sum]
  omega

/-- The work after a change of entry `e` alone. -/
theorem work_change_entry {s t : State} (e : EntryId) (he : OtherEntries e s t)
    (hq : ∀ b : BranchId, t.branches[b].queue = s.branches[b].queue) (w : WindowId) :
    t.work w + entryWork (fun _ => true) w s.entries[e] = s.work w + entryWork (fun _ => true) w t.entries[e] := by
  have h := work_change e 0 he (fun c _ => hq c) w
  rw [hq 0] at h
  omega

/-- Nothing counted and nothing queued is no work. -/
theorem work_eq_zero {s : State} (he : ∀ e : EntryId, s.entries[e].counted = none)
    (hq : ∀ b : BranchId, s.branches[b].queue = []) (w : WindowId) : s.work w = 0 := by
  rw [work_eq_sum, Finset.sum_eq_zero fun e _ => entryWork_of_not_counted (he e),
    Finset.sum_eq_zero fun b _ => by rw [hq b, queueWork_nil],
    Nat.add_zero]

/-- The work on branch `b` and that on the others make up the work. -/
theorem work_split (s : State) (b : BranchId) (w : WindowId) :
    s.work w = s.workVia (fun c => decide (c = b)) w + s.workVia (fun c => decide (c ≠ b)) w := by
  have hentry (x : Entry) : entryWork (fun _ => true) w x =
      entryWork (fun c => decide (c = b)) w x + entryWork (fun c => decide (c ≠ b)) w x := by
    unfold entryWork
    split
    · split_ifs <;> simp_all
    · rfl
  have hqueue (c : BranchId) : queueWork w s.branches[c].queue =
      (if decide (c = b) then queueWork w s.branches[c].queue else 0) +
        if decide (c ≠ b) then queueWork w s.branches[c].queue else 0 := by
    by_cases h : c = b <;> simp [h]
  rw [work_eq_sum, workVia_eq_sum, workVia_eq_sum, Finset.sum_congr rfl fun e _ => hentry s.entries[e],
    Finset.sum_congr rfl fun c _ => hqueue c, Finset.sum_add_distrib, Finset.sum_add_distrib]
  omega

end Sys2Proof.Machine
end

section
/-! The account of the work in flight (R10, R58, R59, R80, R82, R91), record by record: what it says of one window and of one port, and
what is left of it while a wait that has ended is not yet completed. -/

namespace Sys2Proof.Machine

open Sys2Proof.Safety

/-! ## The account of one record -/

/-- The account of a window with work `n`, its completion apart: the count is the work, and 0 for an EMPTY record. -/
def WindowAccount (n : Nat) (w : Window) : Prop := w.inFlight = n ∧ (w.state = .empty → w.inFlight = 0)

/-- No wait of the window has ended: a RETIRING window still has counted work (R17). -/
def WindowSettled (w : Window) : Prop := w.state = .retiring → 0 < w.inFlight

/-- The account of the port `br` of branch `b` with the entries `es`, its completion apart. -/
structure PortAccount (es : Vector Entry 48) (b : BranchId) (br : Branch) : Prop where
  items : ∀ e : EntryId, br.queue.count (.nonPosted e) = if queuedOn b es[e] then 1 else 0
  idle : br.state = .fenced ∨ br.state = .lent → br.queue = [] ∧ ∀ e : EntryId, es[e].issuedOn b = false
  out : br.state.inService = false → PortClear br ∧ ∀ e : EntryId, boundTo b es[e] = false
  drain : br.drainLend = true → br.state = .draining

/-- No wait of the port has ended: a DRAINING branch still holds work (R93). -/
def PortSettled (es : Vector Entry 48) (b : BranchId) (br : Branch) : Prop :=
  br.state = .draining → br.queue ≠ [] ∨ ∃ e : EntryId, es[e].issuedOn b = true

/-- The account of the whole part, completions apart. -/
structure Account (s : State) : Prop where
  windows : ∀ w : WindowId, WindowAccount (s.work w) s.windows[w]
  ports : ∀ b : BranchId, PortAccount s.entries b s.branches[b]

/-! ## Entries of a branch -/

theorem issuedOn_iff (b : BranchId) (x : Entry) : x.issuedOn b = true ↔ ∃ h d, x = .issued h d ∧ h.branch = b := by
  cases x <;> simp [Entry.issuedOn]

/-- A counted entry of a branch is QUEUED or ISSUED there (R21). -/
theorem counted_on_iff (b : BranchId) (x : Entry) :
    (∃ h, x.counted = some h ∧ h.branch = b) ↔ queuedOn b x = true ∨ x.issuedOn b = true := by
  cases x <;> simp [Entry.counted, queuedOn, Entry.issuedOn]

/-- An empty queue has no QUEUED entry (R59). -/
theorem PortAccount.not_queued {es : Vector Entry 48} {b : BranchId} {br : Branch} (h : PortAccount es b br)
    (hq : br.queue = []) (e : EntryId) : queuedOn b es[e] = false := by
  have hcount := h.items e
  rw [hq] at hcount
  simpa using hcount

theorem holdsWork_iff_issuedOn (s : State) (b : BranchId) :
    s.holdsWork b = true ↔ s.branches[b].queue ≠ [] ∨ ∃ e : EntryId, s.entries[e].issuedOn b = true := by
  rw [holdsWork_iff]
  simp only [issuedOn_iff]

/-- The account is what WorkOk says, record by record. -/
theorem workOk_iff (s : State) : WorkOk s ↔
    Account s ∧ (∀ w : WindowId, WindowSettled s.windows[w]) ∧ ∀ b : BranchId, PortSettled s.entries b s.branches[b] := by
  constructor
  · rintro ⟨hcounts, hempties, hitems, hidle, hout, hdrain, hretiring, hdraining⟩
    refine ⟨⟨fun w => ⟨hcounts w, hempties w⟩, fun b => ⟨hitems b, fun hb => ?_, hout b, hdrain b⟩⟩, hretiring, fun b hb => ?_⟩
    · obtain ⟨hq, hnone⟩ := hidle b hb
      refine ⟨hq, fun e => ?_⟩
      by_contra hc
      obtain ⟨h, hcounted, hbranch⟩ := (counted_on_iff b s.entries[e]).mpr (.inr (by simpa using hc))
      exact hnone e h hcounted hbranch
    · exact (holdsWork_iff_issuedOn s b).mp (hdraining b hb)
  · rintro ⟨⟨hwindows, hports⟩, hretiring, hdraining⟩
    refine ⟨fun w => (hwindows w).1, fun w => (hwindows w).2, fun b => (hports b).items, fun b hb => ?_, fun b => (hports b).out,
      fun b => (hports b).drain, hretiring, fun b hb => (holdsWork_iff_issuedOn s b).mpr (hdraining b hb)⟩
    obtain ⟨hq, hnone⟩ := (hports b).idle hb
    refine ⟨hq, fun e h hcounted hbranch => ?_⟩
    rcases (counted_on_iff b s.entries[e]).mp ⟨h, hcounted, hbranch⟩ with hc | hc
    · rw [(hports b).not_queued hq e] at hc
      cases hc
    · rw [hnone e] at hc
      cases hc

theorem workOk_account {s : State} (hs : WorkOk s) : Account s := ((workOk_iff s).mp hs).1

theorem workOk_windowSettled {s : State} (hs : WorkOk s) (w : WindowId) : WindowSettled s.windows[w] :=
  ((workOk_iff s).mp hs).2.1 w

theorem workOk_portSettled {s : State} (hs : WorkOk s) (b : BranchId) : PortSettled s.entries b s.branches[b] :=
  ((workOk_iff s).mp hs).2.2 b

theorem workOk_readsOnly : ReadsOnly [.windows, .entries, .branches] WorkOk := by
  intro s t h hs
  have hw : t.windows = s.windows := h .windows (by simp)
  have he : t.entries = s.entries := h .entries (by simp)
  have hb : t.branches = s.branches := h .branches (by simp)
  rw [workOk_iff] at hs ⊢
  obtain ⟨⟨hwindows, hports⟩, hretiring, hdraining⟩ := hs
  have hwork (w : WindowId) : t.work w = s.work w := work_congr he (fun b => by rw [hb]) w
  exact ⟨⟨fun w => by rw [hwork, hw]; exact hwindows w, fun b => by rw [he, hb]; exact hports b⟩,
    fun w => by rw [hw]; exact hretiring w, fun b => by rw [he, hb]; exact hdraining b⟩

/-! ## Changes of a port -/

@[simp] theorem restall_state (now len : Time) (br : Branch) : (br.restall now len).state = br.state := rfl

@[simp] theorem restall_queue (now len : Time) (br : Branch) : (br.restall now len).queue = br.queue := rfl

@[simp] theorem restall_drainLend (now len : Time) (br : Branch) : (br.restall now len).drainLend = br.drainLend := rfl

@[simp] theorem portClear_restall (now len : Time) (br : Branch) : PortClear (br.restall now len) ↔ PortClear br := Iff.rfl

/-- The account reads nothing of the stall timer. -/
theorem PortAccount.restall {es : Vector Entry 48} {b : BranchId} {br : Branch} (h : PortAccount es b br) (now len : Time) :
    PortAccount es b (br.restall now len) :=
  ⟨h.items, h.idle, h.out, h.drain⟩

/-- A port that keeps its queue, its state and its drain lend keeps its account while it is clear out of service. -/
theorem PortAccount.update {es : Vector Entry 48} {b : BranchId} {br br' : Branch} (h : PortAccount es b br)
    (hqueue : br'.queue = br.queue) (hstate : br'.state = br.state) (hlend : br'.drainLend = br.drainLend)
    (hclear : br.state.inService = false → PortClear br → PortClear br') : PortAccount es b br' where
  items := by rw [hqueue]; exact h.items
  idle := by rw [hqueue, hstate]; exact h.idle
  out := by rw [hstate]; exact fun ho => ⟨hclear ho (h.out ho).1, (h.out ho).2⟩
  drain := by rw [hstate, hlend]; exact h.drain

/-- The account of a port after changes of entries that leave the QUEUED ones of its branch, and that neither issue on the branch nor
bind to it. -/
theorem PortAccount.of_entries {es es' : Vector Entry 48} {b : BranchId} {br : Branch} (h : PortAccount es b br)
    (hqueued : ∀ e : EntryId, queuedOn b es'[e] = queuedOn b es[e])
    (hissued : ∀ e : EntryId, es'[e].issuedOn b = true → es[e].issuedOn b = true)
    (hbound : ∀ e : EntryId, boundTo b es'[e] = true → boundTo b es[e] = true) : PortAccount es' b br where
  items e := by rw [hqueued]; exact h.items e
  idle hb := ⟨(h.idle hb).1, fun e => Bool.eq_false_iff.mpr fun hc => Bool.eq_false_iff.mp ((h.idle hb).2 e) (hissued e hc)⟩
  out ho := ⟨(h.out ho).1, fun e => Bool.eq_false_iff.mpr fun hc => Bool.eq_false_iff.mp ((h.out ho).2 e) (hbound e hc)⟩
  drain := h.drain

theorem PortSettled.of_entries {es es' : Vector Entry 48} {b : BranchId} {br : Branch} (h : PortSettled es b br)
    (hissued : ∀ e : EntryId, es[e].issuedOn b = true → es'[e].issuedOn b = true) : PortSettled es' b br :=
  fun hd => (h hd).imp_right fun ⟨e, he⟩ => ⟨e, hissued e he⟩

/-- New ports with the queues that were there keep the account when each is in order. -/
theorem workOk_of_ports {s t : State} (hs : WorkOk s) (hw : t.windows = s.windows) (he : t.entries = s.entries)
    (hq : ∀ b : BranchId, t.branches[b].queue = s.branches[b].queue)
    (hp : ∀ b : BranchId, PortAccount s.entries b t.branches[b] ∧ PortSettled s.entries b t.branches[b]) : WorkOk t := by
  rw [workOk_iff] at hs ⊢
  obtain ⟨⟨hwindows, -⟩, hretiring, -⟩ := hs
  refine ⟨⟨fun w => ?_, fun b => ?_⟩, fun w => ?_, fun b => ?_⟩
  · rw [work_congr he hq, hw]
    exact hwindows w
  · rw [he]
    exact (hp b).1
  · rw [hw]
    exact hretiring w
  · rw [he]
    exact (hp b).2

/-- A port written with its queue keeps the account when it is in order. -/
theorem setBranch_workOk {s : State} {b : BranchId} {br : Branch} (hs : WorkOk s) (hq : br.queue = s.branches[b].queue)
    (ha : PortAccount s.entries b br) (hd : PortSettled s.entries b br) : WorkOk (s.setBranch b br) := by
  refine workOk_of_ports hs (by simp) (by simp) (fun c => ?_) (fun c => ?_)
  · by_cases hc : c = b
    · rw [hc, setBranch_self, restall_queue, hq]
    · rw [setBranch_other s b br c hc]
  · by_cases hc : c = b
    · rw [hc, setBranch_self]
      exact ⟨ha.restall _ _, hd⟩
    · rw [setBranch_other s b br c hc]
      exact ⟨(workOk_account hs).ports c, workOk_portSettled hs c⟩

/-- A port in service that keeps its queue, its state and its drain lend keeps the account. -/
theorem setBranch_update_workOk {s : State} {b : BranchId} {br : Branch} (hs : WorkOk s)
    (hqueue : br.queue = s.branches[b].queue) (hstate : br.state = s.branches[b].state)
    (hlend : br.drainLend = s.branches[b].drainLend)
    (hclear : s.branches[b].state.inService = false → PortClear s.branches[b] → PortClear br) : WorkOk (s.setBranch b br) := by
  refine setBranch_workOk hs hqueue (((workOk_account hs).ports b).update hqueue hstate hlend hclear) ?_
  unfold PortSettled
  rw [hstate, hqueue]
  exact workOk_portSettled hs b

/-! ## Changes of a window -/

/-- A window that keeps its count keeps the account when it is EMPTY or RETIRING only as the count allows. -/
theorem setWindow_workOk {s : State} {w : WindowId} {x : Window} (hs : WorkOk s) (hcount : x.inFlight = s.windows[w].inFlight)
    (hempty : x.state = .empty → x.inFlight = 0) (hretiring : x.state = .retiring → 0 < x.inFlight) :
    WorkOk (s.setWindow w x) := by
  have hwork (v : WindowId) : (s.setWindow w x).work v = s.work v := work_congr rfl (fun _ => rfl) v
  rw [workOk_iff] at hs ⊢
  obtain ⟨⟨hwindows, hports⟩, hsettled, hdraining⟩ := hs
  refine ⟨⟨fun v => ?_, hports⟩, fun v => ?_, hdraining⟩
  · rw [hwork]
    by_cases hv : v = w
    · rw [hv, setWindow_self]
      exact ⟨hcount.trans (hwindows w).1, hempty⟩
    · rw [setWindow_other s w x v hv]
      exact hwindows v
  · by_cases hv : v = w
    · rw [hv, setWindow_self]
      exact hretiring
    · rw [setWindow_other s w x v hv]
      exact hsettled v

/-! ## Changes of an entry that is not counted -/

/-- What holds of the change of one entry, and of no change, holds of each entry before and after. -/
theorem forall_setEntry {s : State} {e : EntryId} {x : Entry} (P : Entry → Entry → Prop) (hsame : ∀ y, P y y)
    (hchange : P s.entries[e] x) (f : EntryId) : P s.entries[f] (s.setEntry e x).entries[f] := by
  by_cases hf : f = e
  · rw [hf, setEntry_self]
    exact hchange
  · rw [setEntry_other s e x f hf]
    exact hsame _

/-- An entry that is not counted is neither QUEUED nor ISSUED on a branch. -/
theorem not_on_of_not_counted {x : Entry} (h : x.counted = none) (b : BranchId) : queuedOn b x = false ∧ x.issuedOn b = false := by
  have hnot := (counted_on_iff b x).not.mp (by simp [h])
  simpa using hnot

/-- An entry that is not counted, becoming one that is not counted and binds to no branch anew, keeps the account. -/
theorem setEntry_workOk {s : State} {e : EntryId} {x : Entry} (hs : WorkOk s) (hold : s.entries[e].counted = none)
    (hnew : x.counted = none) (hbound : ∀ b : BranchId, boundTo b x = true → boundTo b s.entries[e] = true) :
    WorkOk (s.setEntry e x) := by
  have hwork (w : WindowId) : (s.setEntry e x).work w = s.work w := by
    have h := work_change_entry e (setEntry_other s e x) (fun _ => rfl) w
    rw [setEntry_self, entryWork_of_not_counted hold, entryWork_of_not_counted hnew] at h
    exact h
  rw [workOk_iff] at hs ⊢
  obtain ⟨⟨hwindows, hports⟩, hsettled, hdraining⟩ := hs
  refine ⟨⟨fun w => by rw [hwork]; exact hwindows w, fun b => (hports b).of_entries ?_ ?_ ?_⟩, hsettled,
    fun b => (hdraining b).of_entries ?_⟩
  · exact forall_setEntry (fun y z => queuedOn b z = queuedOn b y) (fun _ => rfl)
      ((not_on_of_not_counted hnew b).1.trans (not_on_of_not_counted hold b).1.symm)
  · exact forall_setEntry (fun y z => z.issuedOn b = true → y.issuedOn b = true) (fun _ => id)
      (by simp [(not_on_of_not_counted hnew b).2])
  · exact forall_setEntry (fun y z => boundTo b z = true → boundTo b y = true) (fun _ => id) (hbound b)
  · exact forall_setEntry (fun y z => y.issuedOn b = true → z.issuedOn b = true) (fun _ => id)
      (fun h => absurd h (Bool.eq_false_iff.mp (not_on_of_not_counted hold b).2))

end Sys2Proof.Machine
end

section
/-! The shared operations keep the account of the work in flight: completion of the waits that have ended (R17, R93), answers (R28,
R34), issue (R61 to R63), routing (R22, R60), loss of a branch (R82), trunk reset (R164) and CLEAR-PATH (R195). -/

namespace Sys2Proof.Machine

open Sys2Proof.Safety

/-! ## Completion -/

theorem drained_eq_false_iff (s : State) (b : BranchId) :
    s.drained b = false ↔ PortSettled s.entries b s.branches[b] := by
  unfold State.drained PortSettled
  rw [← holdsWork_iff_issuedOn]
  simp

theorem window_drained_eq_false_iff (w : Window) : w.drained = false ↔ WindowSettled w := by
  rw [← Bool.not_eq_true, window_drained_iff]
  unfold WindowSettled
  rw [not_and, Nat.pos_iff_ne_zero]

/-- A drained branch that ends its drain is in order: it is FENCED or LENT and holds no work (R91, R93). -/
theorem endDrain_account {s : State} {b : BranchId} (h : PortAccount s.entries b s.branches[b]) (hd : s.drained b = true) :
    PortAccount s.entries b s.branches[b].endDrain := by
  obtain ⟨-, hqueue, hissued⟩ := (drained_iff s b).mp hd
  have hnone (e : EntryId) : s.entries[e].issuedOn b = false := by
    rw [← Bool.not_eq_true, issuedOn_iff]
    rintro ⟨k, d, he, hk⟩
    exact hissued e k d he hk
  have hstate : s.branches[b].endDrain.state.inService = true := by
    unfold Branch.endDrain Branch.enterFence
    split <;> rfl
  have hkeep : s.branches[b].endDrain.queue = s.branches[b].queue := by
    unfold Branch.endDrain Branch.enterFence
    split <;> rfl
  refine ⟨?_, fun _ => ⟨hkeep.trans hqueue, hnone⟩, fun ho => ?_, fun hl => Bool.noConfusion hl⟩
  · rw [hkeep]
    exact h.items
  · rw [hstate] at ho
    cases ho

theorem endDrain_not_draining (br : Branch) : br.endDrain.state ≠ .draining := by
  unfold Branch.endDrain Branch.enterFence
  split <;> simp

theorem settle_queue (s : State) (ws : WindowId → Bool) (bs : BranchId → Bool) (b : BranchId) :
    (s.settle ws bs).branches[b].queue = s.branches[b].queue := by
  rw [settle_branches]
  unfold Branch.endDrain Branch.enterFence
  split
  · split <;> rfl
  · rfl

/-- Settling completes the account: where `ws` and `bs` name every wait that may have ended, none is left (R17, R93). -/
theorem settle_workOk {s : State} {ws : WindowId → Bool} {bs : BranchId → Bool} (hs : Account s)
    (hws : ∀ w : WindowId, ws w = false → WindowSettled s.windows[w])
    (hbs : ∀ b : BranchId, bs b = false → PortSettled s.entries b s.branches[b]) : WorkOk (s.settle ws bs) := by
  obtain ⟨hwindows, hports⟩ := hs
  have hwork (w : WindowId) : (s.settle ws bs).work w = s.work w := work_congr (by simp) (settle_queue s ws bs) w
  have hentries : (s.settle ws bs).entries = s.entries := by simp
  rw [workOk_iff]
  refine ⟨⟨fun w => ?_, fun b => ?_⟩, fun w => ?_, fun b => ?_⟩
  · rw [hwork, settle_windows]
    split
    case isTrue h =>
      obtain ⟨-, hzero⟩ := (window_drained_iff _).mp (Bool.and_eq_true_iff.mp h).2
      exact ⟨hzero.symm.trans (hwindows w).1, fun _ => rfl⟩
    case isFalse => exact hwindows w
  · rw [hentries, settle_branches]
    split
    case isTrue h => exact (endDrain_account (hports b) (Bool.and_eq_true_iff.mp h).2).restall _ _
    case isFalse => exact hports b
  · rw [settle_windows]
    split
    case isTrue => exact fun h => WindowState.noConfusion h
    case isFalse h =>
      by_cases hw : ws w = true
      · exact (window_drained_eq_false_iff _).mp (by simpa [hw] using h)
      · exact hws w (by simpa using hw)
  · rw [hentries, settle_branches]
    split
    case isTrue => exact fun h => absurd h (endDrain_not_draining _)
    case isFalse h =>
      by_cases hb : bs b = true
      · exact (drained_eq_false_iff s b).mp (by simpa [hb] using h)
      · exact hbs b (by simpa using hb)

/-! ## Answers -/

/-- The account after the work of window `v` has fallen by one and the window is uncounted (R9). -/
theorem uncountOne_account {s t : State} (v : WindowId) (hs : Account s) (hw : t.windows = s.windows)
    (hwork : ∀ w : WindowId, t.work w + (if v = w then 1 else 0) = s.work w)
    (hports : ∀ b : BranchId, PortAccount t.entries b t.branches[b]) : Account (t.uncountOne v) := by
  have hkeep (w : WindowId) : (t.uncountOne v).work w = t.work w := work_congr (by simp) (fun b => by simp) w
  refine ⟨fun w => ?_, fun b => ?_⟩
  · obtain ⟨hcount, hempty⟩ := hs.windows w
    have hone := hwork w
    rw [hkeep, State.uncountOne, uncount_windows, hw]
    refine ⟨?_, fun h => ?_⟩
    · dsimp only
      rw [hcount, ← hone]
      by_cases h : v = w
      · simp [h]
      · simp [h, Ne.symm h]
    · dsimp only
      rw [hempty h, Nat.zero_sub]
  · simpa using hports b

theorem uncountOne_other (s : State) {v w : WindowId} (h : w ≠ v) : (s.uncountOne v).windows[w] = s.windows[w] := by
  rw [State.uncountOne, uncount_windows, if_neg h, Nat.sub_zero]

/-- An answer keeps the account: the entry is counted no longer, its window is uncounted, and a wait that this ends is completed in the
same event (R28, R34). -/
theorem answerEntry_workOk {s : State} {e : EntryId} {h : Held} {d : Time} (o : Bool) (st : ReplyStatus) (ws : List Word)
    (hs : WorkOk s) (he : s.entries[e] = .issued h d) : WorkOk (s.answerEntry e h o st ws) := by
  have hports (b : BranchId) : PortAccount (s.setEntry e (.answered h o)).entries b s.branches[b] := by
    refine ((workOk_account hs).ports b).of_entries ?_ ?_ ?_
    · exact forall_setEntry (fun y z => queuedOn b z = queuedOn b y) (fun _ => rfl) (by rw [he]; rfl)
    · exact forall_setEntry (fun y z => z.issuedOn b = true → y.issuedOn b = true) (fun _ => id) (by simp [Entry.issuedOn])
    · refine forall_setEntry (fun y z => boundTo b z = true → boundTo b y = true) (fun _ => id) ?_
      rw [he]
      exact fun hb => (Bool.and_eq_true_iff.mp hb).1
  have hwork (w : WindowId) :
      (s.setEntry e (.answered h o)).work w + (if h.window = w then 1 else 0) = s.work w := by
    have hchange := work_change_entry e (setEntry_other s e (.answered h o)) (fun _ => rfl) w
    rw [he, setEntry_self] at hchange
    simpa using hchange
  unfold State.answerEntry
  refine settle_workOk (uncountOne_account h.window (workOk_account hs) rfl hwork hports) (fun w hw => ?_) (fun b hb => ?_)
  · rw [uncountOne_other _ (by simpa using hw)]
    exact workOk_windowSettled hs w
  · have hissued : ∀ f : EntryId, s.entries[f].issuedOn b = true →
        (s.setEntry e (.answered h o)).entries[f].issuedOn b = true := by
      refine forall_setEntry (fun y z => y.issuedOn b = true → z.issuedOn b = true) (fun _ => id) ?_
      rw [he]
      intro hc
      have hne : b ≠ h.branch := by simpa using hb
      exact absurd (of_decide_eq_true hc).symm hne
    simpa using (workOk_portSettled hs b).of_entries hissued

/-! ## Issue -/

/-- A port that issues is in order when its items and its drain lend are. -/
theorem PortAccount.of_issues {es : Vector Entry 48} {b : BranchId} {br : Branch} (hi : br.state.issues = true)
    (hitems : ∀ e : EntryId, br.queue.count (.nonPosted e) = if queuedOn b es[e] then 1 else 0)
    (hdrain : br.drainLend = true → br.state = .draining) : PortAccount es b br where
  items := hitems
  idle h := by rcases h with h | h <;> simp [h, BranchState.issues] at hi
  out h := by cases hst : br.state <;> simp_all [BranchState.issues, BranchState.inService]
  drain := hdrain

/-- What holds of the port written and of every other port holds of each. -/
theorem forall_setBranch {s : State} {b : BranchId} {br : Branch} (P : BranchId → Branch → Prop)
    (hself : P b (br.restall s.timeBase s.timing.stall)) (hother : ∀ c : BranchId, c ≠ b → P c s.branches[c]) (c : BranchId) :
    P c (s.setBranch b br).branches[c] := by
  by_cases hc : c = b
  · rw [hc, setBranch_self]
    exact hself
  · rw [setBranch_other s b br c hc]
    exact hother c hc

/-- The issue of a posted write keeps the account (R63). -/
theorem issuePosted_workOk {s : State} (b : BranchId) (hs : WorkOk s) : Leaves WorkOk (execIssuePosted b s) := by
  unfold execIssuePosted
  split
  case h_2 => exact leaves_fault
  case h_1 w address length hop data hchoice =>
    apply leaves_next
    obtain ⟨-, hissues, -, hqueue⟩ := choice_issue hchoice
    have hports := (workOk_account hs).ports
    generalize hbr : s.branches[b].issue (.request .postedWrite 0 address length hop data) = br
    have hstate : br.state = s.branches[b].state := by rw [← hbr]; rfl
    have htail : br.queue = s.branches[b].queue.tail := by rw [← hbr]; rfl
    have hself : PortAccount s.entries b br := by
      refine .of_issues (by rwa [hstate]) (fun e => ?_) (by rw [hstate, ← hbr]; exact (hports b).drain)
      rw [← (hports b).items e, htail, hqueue]
      simp
    have hwork (v : WindowId) : (s.setBranch b br).work v + (if w = v then 1 else 0) = s.work v := by
      have hchange := work_change (s := s) (t := s.setBranch b br) 0 b (fun _ _ => rfl)
        (fun c hc => by rw [setBranch_other s b br c hc]) v
      rw [setBranch_self, restall_queue, htail, hqueue, queueWork_cons, queueWork_posted] at hchange
      simp only [State.setBranch_entries, List.tail_cons] at hchange
      omega
    refine settle_workOk (uncountOne_account w (workOk_account hs) rfl hwork ?_) (fun v hv => ?_) (fun c hc => ?_)
    · exact forall_setBranch (PortAccount s.entries) (hself.restall _ _) fun c _ => hports c
    · rw [uncountOne_other _ (by simpa using hv)]
      exact workOk_windowSettled hs v
    · have hne : c ≠ b := by simpa using hc
      rw [State.uncountOne_branches, setBranch_other s b br c hne]
      simpa using workOk_portSettled hs c

/-- The entry of the item at the head of a queue is QUEUED on the branch, and has no other item there (R58, R59). -/
theorem PortAccount.head {es : Vector Entry 48} {b : BranchId} {br : Branch} {e : EntryId} {rest : List Item}
    (h : PortAccount es b br) (hq : br.queue = .nonPosted e :: rest) :
    queuedOn b es[e] = true ∧ rest.count (.nonPosted e) = 0 := by
  have hcount := h.items e
  rw [hq, List.count_cons_self] at hcount
  split at hcount
  · exact ⟨‹_›, by omega⟩
  · omega

/-- The port that issues the entry at its head is in order with the entry ISSUED. -/
theorem issue_account {s : State} {b : BranchId} {e : EntryId} {h : Held} {d : Time} {br : Branch}
    (ha : PortAccount s.entries b s.branches[b]) (hissues : br.state.issues = true)
    (hq : s.branches[b].queue = .nonPosted e :: br.queue) (hdrain : br.drainLend = true → br.state = .draining) :
    PortAccount (s.setEntry e (.issued h d)).entries b br := by
  refine .of_issues hissues (fun f => ?_) hdrain
  by_cases hf : f = e
  · rw [hf, setEntry_self, (ha.head hq).2]
    rfl
  · rw [setEntry_other s e _ f hf, ← ha.items f, hq, List.count_cons_of_ne (by simpa using Ne.symm hf)]

/-- Another port is in order too: the entry is not of its branch, before and after. -/
theorem issue_account_other {s : State} {b c : BranchId} {e : EntryId} {h : Held} {d : Time} {data : List Word}
    (he : s.entries[e] = .queued h data) (hbranch : h.branch = b) (hc : c ≠ b)
    (ha : PortAccount s.entries c s.branches[c]) : PortAccount (s.setEntry e (.issued h d)).entries c s.branches[c] := by
  have hne : ¬h.branch = c := fun hh => hc (hh.symm.trans hbranch)
  refine ha.of_entries ?_ ?_ ?_
  · exact forall_setEntry (fun y z => queuedOn c z = queuedOn c y) (fun _ => rfl) (by simp [he, queuedOn, hne])
  · exact forall_setEntry (fun y z => z.issuedOn c = true → y.issuedOn c = true) (fun _ => id) (by simp [Entry.issuedOn, hne])
  · exact forall_setEntry (fun y z => boundTo c z = true → boundTo c y = true) (fun _ => id) (by simp [boundTo, hne])

/-- An entry that was QUEUED and its item at the head are as much work as the entry ISSUED and the queue's rest (R10). -/
theorem issue_work {s : State} {b : BranchId} {e : EntryId} {h : Held} {d : Time} {data : List Word} {br : Branch}
    (he : s.entries[e] = .queued h data) (hq : s.branches[b].queue = .nonPosted e :: br.queue) (v : WindowId) :
    ((s.setEntry e (.issued h d)).setBranch b br).work v = s.work v := by
  have hchange := work_change (s := s) (t := (s.setEntry e (.issued h d)).setBranch b br) e b (setEntry_other s e _)
    (fun c hc => by rw [setBranch_other _ b br c hc]; rfl) v
  rw [setBranch_self, restall_queue, State.setBranch_entries, setEntry_self, he, hq, queueWork_cons, entryWork_queued,
    entryWork_issued, queueWork_nonPosted] at hchange
  omega

/-- The issue of a non-posted request keeps the account: its entry is counted ISSUED as it was QUEUED (R61, R62). -/
theorem issueNonPosted_workOk {s : State} (b : BranchId) (hs : WorkOk s) : Leaves WorkOk (execIssueNonPosted b s) := by
  unfold execIssueNonPosted
  split
  case h_2 => exact leaves_fault
  case h_1 e hchoice =>
    split
    case h_1 h data he =>
      apply leaves_next
      obtain ⟨-, hissues, -, hqueue⟩ := choice_issue hchoice
      have hports := (workOk_account hs).ports
      have hbranch : h.branch = b := by simpa [he, queuedOn] using ((hports b).head hqueue).1
      rw [workOk_iff]
      refine ⟨⟨fun v => ?_, ?_⟩, fun v => workOk_windowSettled hs v, ?_⟩
      · rw [issue_work (br := s.branches[b].issue (h.request e data)) he hqueue]
        exact (workOk_account hs).windows v
      · refine forall_setBranch (s := s.setEntry e _) (PortAccount _) ?_ fun c hc => ?_
        · exact (issue_account (br := s.branches[b].issue (h.request e data)) (hports b) hissues hqueue
          (hports b).drain).restall _ _
        · exact issue_account_other he hbranch hc (hports c)
      · refine forall_setBranch (s := s.setEntry e _) (PortSettled _) (fun _ => .inr ⟨e, ?_⟩) fun c hc => ?_
        · rw [State.setBranch_entries, setEntry_self]
          simpa [Entry.issuedOn] using hbranch
        · refine (workOk_portSettled hs c).of_entries ?_
          exact forall_setEntry (fun y z => y.issuedOn c = true → z.issuedOn c = true) (fun _ => id)
            (by simp [he, Entry.issuedOn])
    all_goals exact leaves_fault

/-! ## Routing -/

/-- Counting a request in keeps the account when its work has been added and the ports are in order (R8). -/
theorem countIn_workOk {s t : State} {w : WindowId} (hs : WorkOk s) (hlive : s.windows[w].state = .live)
    (hw : t.windows = s.windows) (hwork : ∀ v : WindowId, t.work v = s.work v + if w = v then 1 else 0)
    (hports : ∀ b : BranchId, PortAccount t.entries b t.branches[b])
    (hsettled : ∀ b : BranchId, PortSettled t.entries b t.branches[b]) : WorkOk (t.countIn w) := by
  have hkeep (v : WindowId) : (t.countIn w).work v = t.work v := work_congr rfl (fun _ => rfl) v
  have hother (v : WindowId) (hv : v ≠ w) : (t.countIn w).windows[v] = s.windows[v] := by
    rw [State.countIn, setWindow_other t w _ v hv, hw]
  have hself : (t.countIn w).windows[w] = { s.windows[w] with inFlight := s.windows[w].inFlight + 1 } := by
    rw [State.countIn, setWindow_self, hw]
  rw [workOk_iff]
  refine ⟨⟨fun v => ?_, hports⟩, fun v => ?_, hsettled⟩
  · rw [hkeep, hwork]
    by_cases hv : v = w
    · rw [hv, hself, if_pos rfl]
      refine ⟨congrArg (· + 1) ((workOk_account hs).windows w).1, fun he => ?_⟩
      exact WindowState.noConfusion (hlive.symm.trans he)
    · rw [hother v hv, if_neg (Ne.symm hv)]
      exact (workOk_account hs).windows v
  · by_cases hv : v = w
    · rw [hv, hself]
      exact fun _ => Nat.succ_pos _
    · rw [hother v hv]
      exact workOk_windowSettled hs v

theorem append_other (s : State) (b : BranchId) (i : Item) : OtherBranches b s (s.append b i) := setBranch_other s b _

theorem append_queue (s : State) (b : BranchId) (i : Item) :
    (s.append b i).branches[b].queue = s.branches[b].queue ++ [i] := by
  rw [State.append, setBranch_self, restall_queue]

/-- An item adds its own work (R10). -/
theorem append_work (s : State) (b : BranchId) (i : Item) (v : WindowId) :
    (s.append b i).work v = s.work v + queueWork v [i] := by
  have hchange := work_change (s := s) (t := s.append b i) 0 b (fun _ _ => rfl) (fun c hc => by rw [append_other s b i c hc]) v
  rw [append_queue, queueWork_append, State.append_entries] at hchange
  omega

/-- An item appended to the queue of an ACTIVE branch leaves the ports in order when the items of that queue are. -/
theorem append_account {s : State} {b : BranchId} {i : Item} {es : Vector Entry 48} (hactive : s.branches[b].state = .active)
    (hdrain : s.branches[b].drainLend = true → s.branches[b].state = .draining)
    (hitems : ∀ e : EntryId, (s.branches[b].queue ++ [i]).count (.nonPosted e) = if queuedOn b es[e] then 1 else 0)
    (hother : ∀ c : BranchId, c ≠ b → PortAccount es c s.branches[c]) (c : BranchId) :
    PortAccount es c (s.append b i).branches[c] := by
  refine forall_setBranch (PortAccount es) (PortAccount.restall ?_ _ _) hother c
  exact .of_issues (by rw [hactive]; rfl) hitems hdrain

theorem append_settled {s : State} {b : BranchId} {i : Item} {es : Vector Entry 48} (hactive : s.branches[b].state = .active)
    (hother : ∀ c : BranchId, c ≠ b → PortSettled es c s.branches[c]) (c : BranchId) :
    PortSettled es c (s.append b i).branches[c] := by
  refine forall_setBranch (PortSettled es) (fun hd => ?_) hother c
  exact BranchState.noConfusion (hactive.symm.trans hd)

/-- A posted write routed through a LIVE window to an ACTIVE branch keeps the account (R60). -/
theorem routePosted_workOk {s : State} {w : WindowId} {b : BranchId} (a : Word) (l : BitVec 5) (k : BitVec 3)
    (data : List Word) (hs : WorkOk s) (hlive : s.windows[w].state = .live) (hactive : s.branches[b].state = .active) :
    WorkOk ((s.append b (.posted w a l k data)).countIn w) := by
  have hports := (workOk_account hs).ports
  refine countIn_workOk hs hlive rfl (fun v => ?_) ?_ ?_
  · rw [append_work, queueWork_posted]
  · refine append_account hactive (hports b).drain (fun e => ?_) fun c _ => hports c
    rw [State.append_entries, ← (hports b).items e]
    simp
  · exact append_settled hactive fun c _ => workOk_portSettled hs c

/-- A FREE entry that becomes QUEUED is in order on every other branch. -/
theorem queue_account_other {s : State} {e : EntryId} {h : Held} {data : List Word} {c : BranchId}
    (hfree : s.entries[e] = .free) (hc : c ≠ h.branch) (ha : PortAccount s.entries c s.branches[c]) :
    PortAccount (s.setEntry e (.queued h data)).entries c s.branches[c] := by
  have hne : ¬h.branch = c := Ne.symm hc
  refine ha.of_entries ?_ ?_ ?_
  · exact forall_setEntry (fun y z => queuedOn c z = queuedOn c y) (fun _ => rfl) (by simp [hfree, queuedOn, hne])
  · exact forall_setEntry (fun y z => z.issuedOn c = true → y.issuedOn c = true) (fun _ => id) (by simp [Entry.issuedOn])
  · exact forall_setEntry (fun y z => boundTo c z = true → boundTo c y = true) (fun _ => id) (by simp [boundTo, hne])

/-- A non-posted request that takes a FREE entry, through a LIVE window to an ACTIVE branch, keeps the account (R22, R60). -/
theorem routeNonPosted_workOk {s : State} {e : EntryId} {h : Held} (data : List Word) (hs : WorkOk s)
    (hfree : s.entries[e] = .free) (hlive : s.windows[h.window].state = .live)
    (hactive : s.branches[h.branch].state = .active) :
    WorkOk (((s.setEntry e (.queued h data)).append h.branch (.nonPosted e)).countIn h.window) := by
  have hports := (workOk_account hs).ports
  refine countIn_workOk hs hlive rfl (fun v => ?_) ?_ ?_
  · have hchange := work_change_entry e (setEntry_other s e (.queued h data)) (fun _ => rfl) v
    rw [hfree, setEntry_self, entryWork_free, entryWork_queued] at hchange
    rw [append_work, queueWork_nonPosted]
    simpa using hchange
  · refine append_account (s := s.setEntry e _) hactive (hports h.branch).drain (fun f => ?_) fun c hc =>
      queue_account_other hfree hc (hports c)
    have hcount := (hports h.branch).items f
    rw [State.append_entries, List.count_append, State.setEntry_branches, hcount]
    by_cases hf : f = e
    · rw [hf, setEntry_self, hfree]
      simp [queuedOn]
    · rw [setEntry_other s e _ f hf, List.count_eq_zero_of_not_mem (by simpa using hf), Nat.add_zero]
  · refine append_settled (s := s.setEntry e _) hactive fun c _ => (workOk_portSettled hs c).of_entries ?_
    exact forall_setEntry (fun y z => y.issuedOn c = true → z.issuedOn c = true) (fun _ => id)
      (by simp [hfree, Entry.issuedOn])

/-- What leaves the windows, the entries and the branches keeps the account. -/
theorem workOk_of_frame {ks : List Block} {s t : State} (hs : WorkOk s) (h : SameBut ks s t)
    (hk : ∀ k ∈ [Block.windows, .entries, .branches], k ∉ ks) : WorkOk t :=
  workOk_readsOnly.keep h hk hs

theorem returnCredit_workOk {s : State} (hs : WorkOk s) : WorkOk s.returnCredit :=
  workOk_of_frame (ks := [.acc]) hs (by simp [sameBut_iff]) (by decide)

theorem freeEntry_free {s : State} {e : EntryId} (h : s.freeEntry = some e) : s.entries[e] = .free :=
  of_decide_eq_true (List.find?_some (p := fun e : EntryId => decide (s.entries[e] = .free)) h)

/-- Routing keeps the account (R137). -/
theorem routeVia_workOk {s : State} {r : Request} {w : WindowId} (hs : WorkOk s) (hlive : s.windows[w].state = .live)
    (hactive : s.branches[s.windows[w].branch].state = .active) : WorkOk (s.routeVia r w) := by
  unfold State.routeVia
  dsimp only
  split
  case h_1 op e _ he =>
    exact returnCredit_workOk
      (routeNonPosted_workOk (h := r.held op w s.windows[w]) r.data hs (freeEntry_free he) hlive hactive)
  case h_2 => exact hs
  case h_3 => exact returnCredit_workOk (routePosted_workOk _ _ _ _ hs hlive hactive)

/-- An examination keeps the account (R132 to R137). -/
theorem routeExamination_workOk {s : State} (hs : WorkOk s) : Leaves WorkOk (execRouteExamination s) := by
  have htaken (rest : List IntakeFrame) : WorkOk { s with intake := rest } :=
    workOk_of_frame (ks := [.intake]) hs (by simp [sameBut_iff]) (by decide)
  unfold execRouteExamination
  split
  · apply leaves_next
    split
    · exact workOk_of_frame (htaken _) (refuse_frame _ _ _ _) (by decide)
    · exact workOk_of_frame (htaken _) (discardDuplicate_frame _ _) (by decide)
    · exact hs
    · rename_i hroute
      obtain ⟨-, -, hcovers, hactive, -⟩ := examine_route hroute
      exact routeVia_workOk (htaken _) (live_of_covers hcovers) hactive
  · exact leaves_fault

end Sys2Proof.Machine
end

section
/-! The losses keep the account of the work in flight: loss of a branch (R39, R82), trunk reset (R40, R75, R164), CLEAR-PATH (R37,
R195) and power-on reset. -/

namespace Sys2Proof.Machine

open Sys2Proof.Safety

/-! ## Loss of a branch -/

/-- The loss of branch `b` leaves the entries of the other branches as those branches see them (R39). -/
theorem lose_other {b c : BranchId} (hc : c ≠ b) (x : Entry) :
    queuedOn c (x.lose b) = queuedOn c x ∧ (x.lose b).issuedOn c = x.issuedOn c ∧ boundTo c (x.lose b) = boundTo c x := by
  cases x with
  | free => exact ⟨rfl, rfl, rfl⟩
  | queued h data => by_cases hb : h.branch = b <;> simp [Entry.lose, queuedOn, Entry.issuedOn, boundTo, hb, Ne.symm hc]
  | issued h d => by_cases hb : h.branch = b <;> simp [Entry.lose, queuedOn, Entry.issuedOn, boundTo, hb, Ne.symm hc]
  | answered h o => by_cases hb : h.branch = b <;> simp [Entry.lose, queuedOn, Entry.issuedOn, boundTo, hb, Ne.symm hc]
  | linger h d => by_cases hb : h.branch = b <;> simp [Entry.lose, queuedOn, Entry.issuedOn, boundTo, hb, Ne.symm hc]

/-- After its loss a branch has no QUEUED entry and guards no tag (R39, R82). -/
theorem lose_self (b : BranchId) (x : Entry) : queuedOn b (x.lose b) = false ∧ boundTo b (x.lose b) = false := by
  cases x with
  | free => exact ⟨rfl, rfl⟩
  | queued h data => by_cases hb : h.branch = b <;> simp [Entry.lose, queuedOn, boundTo, hb]
  | issued h d => by_cases hb : h.branch = b <;> simp [Entry.lose, queuedOn, boundTo, hb]
  | answered h o => by_cases hb : h.branch = b <;> simp [Entry.lose, queuedOn, boundTo, hb]
  | linger h d => by_cases hb : h.branch = b <;> simp [Entry.lose, queuedOn, boundTo, hb]

/-- A loss takes the work of the branch's entries (R82). -/
theorem lose_entryWork (b : BranchId) (w : WindowId) (x : Entry) :
    entryWork (fun _ => true) w (x.lose b) = entryWork (fun c => decide (c ≠ b)) w x := by
  cases x with
  | queued h data => by_cases hb : h.branch = b <;> simp [Entry.lose, hb]
  | issued h d => by_cases hb : h.branch = b <;> simp [Entry.lose, hb]
  | answered h o => by_cases hb : h.branch = b <;> simp [Entry.lose, hb]
  | linger h d => by_cases hb : h.branch = b <;> simp [Entry.lose, hb]
  | free => rfl

theorem lose_branch_self (s : State) (b : BranchId) (st : BranchState) :
    (s.lose b st).branches[b] = { s.branches[b].lose with state := st } := by
  simp

theorem lose_branch_other (s : State) (b : BranchId) (st : BranchState) : OtherBranches b s (s.lose b st) := by
  intro c hc
  have hne : (b : Nat) ≠ c := fun h => hc (Fin.ext h.symm)
  simp [Vector.getElem_set_ne, hne]

theorem lose_queue (s : State) (b : BranchId) (st : BranchState) (c : BranchId) :
    (s.lose b st).branches[c].queue = if c = b then [] else s.branches[c].queue := by
  by_cases hc : c = b
  · rw [hc, lose_branch_self, if_pos rfl]
    rfl
  · rw [lose_branch_other s b st c hc, if_neg hc]

/-- What a loss leaves of the work is that of the other branches (R82). -/
theorem lose_work (s : State) (b : BranchId) (st : BranchState) (w : WindowId) :
    (s.lose b st).work w = s.workVia (fun c => decide (c ≠ b)) w := by
  have hentry (e : EntryId) : entryWork (fun _ => true) w (s.lose b st).entries[e] =
      entryWork (fun c => decide (c ≠ b)) w s.entries[e] := by
    rw [lose_entries, lose_entryWork]
  have hqueue (c : BranchId) : queueWork w (s.lose b st).branches[c].queue =
      if decide (c ≠ b) then queueWork w s.branches[c].queue else 0 := by
    rw [lose_queue]
    by_cases hc : c = b <;> simp [hc]
  rw [work_eq_sum, workVia_eq_sum, Finset.sum_congr rfl fun e _ => hentry e, Finset.sum_congr rfl fun c _ => hqueue c]

/-- The account of a window after a loss takes `gone` of its work and leaves `rest` (R82, R84). -/
theorem retiredByLoss_account {s : State} {b : BranchId} {w : WindowId} {rest : Nat}
    (ha : WindowAccount (s.workVia (fun c => decide (c = b)) w + rest) s.windows[w]) (hsettled : WindowSettled s.windows[w]) :
    let t := if retiredByLoss s b w then Window.blank
      else { s.windows[w] with inFlight := s.windows[w].inFlight - s.workVia (fun c => decide (c = b)) w }
    WindowAccount rest t ∧ WindowSettled t := by
  obtain ⟨hcount, hempty⟩ := ha
  unfold retiredByLoss
  dsimp only
  generalize s.workVia (fun c => decide (c = b)) w = gone at hcount ⊢
  split
  case isTrue h =>
    simp only [Bool.and_eq_true, decide_eq_true_eq] at h
    refine ⟨⟨?_, fun _ => rfl⟩, fun hr => WindowState.noConfusion hr⟩
    show 0 = rest
    omega
  case isFalse h =>
    simp only [Bool.and_eq_true, decide_eq_true_eq, not_and] at h
    refine ⟨⟨?_, fun he => ?_⟩, fun hr => ?_⟩
    · dsimp only
      omega
    · dsimp only
      rw [hempty he, Nat.zero_sub]
    · have hpos : 0 < s.windows[w].inFlight := hsettled hr
      dsimp only
      by_cases hgone : 0 < gone
      · have hmore := h ⟨hr, hgone⟩
        omega
      · omega

/-- The port of a lost branch is clear (R82). -/
theorem lose_portClear (br : Branch) (st : BranchState) : PortClear { br.lose with state := st } :=
  ⟨rfl, rfl, rfl, rfl, rfl, rfl, rfl, rfl⟩

/-- A loss keeps the account (R82): the work of the branch is gone and the windows are uncounted by it. -/
theorem lose_workOk {s : State} {b : BranchId} {st : BranchState} (hst : st.inService = false) (hs : WorkOk s) :
    WorkOk (s.lose b st) := by
  have hwindow (w : WindowId) : WindowAccount ((s.lose b st).work w) (s.lose b st).windows[w] ∧
      WindowSettled (s.lose b st).windows[w] := by
    have ha := (workOk_account hs).windows w
    rw [work_split s b w] at ha
    rw [lose_windows, lose_work]
    exact retiredByLoss_account ha (workOk_windowSettled hs w)
  have hnot : st ≠ .draining ∧ st ≠ .fenced ∧ st ≠ .lent := by cases st <;> simp_all [BranchState.inService]
  rw [workOk_iff]
  refine ⟨⟨fun w => (hwindow w).1, fun c => ?_⟩, fun w => (hwindow w).2, fun c => ?_⟩
  · by_cases hc : c = b
    · rw [hc, lose_branch_self]
      refine ⟨fun e => ?_, fun h => ?_, fun _ => ⟨lose_portClear _ st, fun e => ?_⟩, fun h => Bool.noConfusion h⟩
      · rw [lose_entries, (lose_self b _).1]
        rfl
      · rcases h with h | h
        · exact absurd h hnot.2.1
        · exact absurd h hnot.2.2
      · rw [lose_entries, (lose_self b _).2]
    · rw [lose_branch_other s b st c hc]
      refine ((workOk_account hs).ports c).of_entries (fun e => ?_) (fun e => ?_) (fun e => ?_)
      · rw [lose_entries, (lose_other hc _).1]
      · rw [lose_entries, (lose_other hc _).2.1]
        exact id
      · rw [lose_entries, (lose_other hc _).2.2]
        exact id
  · by_cases hc : c = b
    · rw [hc, lose_branch_self]
      exact fun h => absurd h hnot.1
    · rw [lose_branch_other s b st c hc]
      refine (workOk_portSettled hs c).of_entries fun e h => ?_
      rw [lose_entries, (lose_other hc _).2.1, h]

theorem outOfService_not_inService (br : Branch) : br.outOfService.inService = false := by
  unfold Branch.outOfService
  split <;> rfl

/-- What a record or a raise leaves of the account. -/
theorem recordFault_workOk {s : State} (f : FaultRecord) (hs : WorkOk s) : WorkOk (s.recordFault f) :=
  workOk_of_frame hs (recordFault_frame f s) (by decide)

theorem raiseInternal_workOk {s : State} (k : Fin 8) (hs : WorkOk s) : WorkOk (s.raiseInternal k) :=
  workOk_of_frame hs (raise_frame _ s) (by decide)

theorem lossBy_workOk {s : State} (b : BranchId) (cause : LossCause) (hs : WorkOk s) : WorkOk (s.lossBy b cause) :=
  recordFault_workOk _ (raiseInternal_workOk 1 (lose_workOk (outOfService_not_inService _) hs))

theorem sendReset_workOk {s : State} (b : BranchId) (hs : WorkOk s) : WorkOk (s.setBranch b s.branches[b].sendReset) := by
  refine setBranch_update_workOk hs rfl rfl rfl fun _ hclear => ?_
  obtain ⟨h1, h2, h3, h4, h5, h6, h7, -⟩ := hclear
  exact ⟨h1, h2, h3, h4, h5, h6, h7, rfl⟩

theorem branchCheckFails_workOk {s : State} (b : BranchId) (hs : WorkOk s) : WorkOk (s.branchCheckFails b) := by
  unfold State.branchCheckFails
  split
  · exact lossBy_workOk b .check (sendReset_workOk b hs)
  · exact hs

/-! ## Nothing in flight -/

/-- The account of a part with no counted entry and no queued item: every count is 0, a port is in order when it is clear out of
service and drain lend is set only while DRAINING. -/
theorem account_of_nothing {s : State} (hcounted : ∀ e : EntryId, s.entries[e].counted = none)
    (hqueue : ∀ b : BranchId, s.branches[b].queue = []) (hcount : ∀ w : WindowId, s.windows[w].inFlight = 0)
    (hout : ∀ b : BranchId, s.branches[b].state.inService = false →
      PortClear s.branches[b] ∧ ∀ e : EntryId, boundTo b s.entries[e] = false)
    (hdrain : ∀ b : BranchId, s.branches[b].drainLend = true → s.branches[b].state = .draining) : Account s where
  windows w := ⟨(hcount w).trans (work_eq_zero hcounted hqueue w).symm, fun _ => hcount w⟩
  ports b :=
    { items := fun e => by rw [hqueue, (not_on_of_not_counted (hcounted e) b).1]; rfl
      idle := fun _ => ⟨hqueue b, fun e => (not_on_of_not_counted (hcounted e) b).2⟩
      out := hout b
      drain := hdrain b }

/-- A port out of service with its queue emptied is still clear. -/
theorem portClear_emptyQueue {br : Branch} (h : PortClear br) : PortClear { br with queue := [] } := by
  obtain ⟨-, h2, h3, h4, h5, h6, h7, h8⟩ := h
  exact ⟨rfl, h2, h3, h4, h5, h6, h7, h8⟩

/-! ## Trunk reset -/

theorem trunkReset_entries (s : State) (sends : Bool) (e : EntryId) :
    (s.trunkReset sends).entries[e] = s.entries[e].trunkReset s.timeBase s.timing := by
  simp [State.trunkReset]

theorem trunkReset_branches (s : State) (sends : Bool) (b : BranchId) :
    (s.trunkReset sends).branches[b] = s.branches[b].trunkReset.restall s.timeBase s.timing.stall := by
  simp [State.trunkReset]

theorem entry_trunkReset_counted (now : Time) (k : Timing) (x : Entry) : (x.trunkReset now k).counted = none := by
  unfold Entry.trunkReset
  split <;> rfl

theorem entry_trunkReset_boundTo (now : Time) (k : Timing) (b : BranchId) (x : Entry)
    (h : boundTo b (x.trunkReset now k) = true) : boundTo b x = true := by
  unfold Entry.trunkReset at h
  split at h <;> simp_all [boundTo]

theorem branch_trunkReset_queue (br : Branch) : br.trunkReset.queue = [] := by
  unfold Branch.trunkReset
  split <;> rfl

theorem branch_trunkReset_not_draining (br : Branch) : br.trunkReset.state ≠ .draining := by
  unfold Branch.trunkReset
  split <;> simp_all

/-- A port that a trunk reset leaves out of service was out of service, and has its queue emptied (R102). -/
theorem branch_trunkReset_out (br : Branch) (h : br.trunkReset.state.inService = false) :
    br.state.inService = false ∧ br.trunkReset = { br with queue := [] } := by
  unfold Branch.trunkReset at h ⊢
  split at h <;> simp_all [BranchState.inService]

theorem branch_trunkReset_drainLend (br : Branch) (hdrain : br.drainLend = true → br.state = .draining) :
    br.trunkReset.drainLend = false := by
  unfold Branch.trunkReset
  cases hl : br.drainLend
  · split <;> simp
  · simp [hdrain hl]

theorem window_trunkReset_count (w : Window) : w.trunkReset.inFlight = 0 := by
  unfold Window.trunkReset
  split <;> rfl

theorem window_trunkReset_not_retiring (w : Window) : w.trunkReset.state ≠ .retiring := by
  unfold Window.trunkReset
  split <;> simp_all [Window.blank]

/-- A trunk reset keeps the account: nothing is in flight (R19, R40, R75). -/
theorem trunkReset_workOk {s : State} (sends : Bool) (hs : WorkOk s) : WorkOk (s.trunkReset sends) := by
  have hports := (workOk_account hs).ports
  rw [workOk_iff]
  refine ⟨account_of_nothing (fun e => ?_) (fun b => ?_) (fun w => ?_) (fun b ho => ?_) (fun b hl => ?_), fun w hr => ?_,
    fun b hd => ?_⟩
  · rw [trunkReset_entries, entry_trunkReset_counted]
  · rw [trunkReset_branches, restall_queue, branch_trunkReset_queue]
  · rw [trunkReset_windows, window_trunkReset_count]
  · rw [trunkReset_branches] at ho ⊢
    obtain ⟨hout, heq⟩ := branch_trunkReset_out _ ho
    obtain ⟨hclear, hbound⟩ := (hports b).out hout
    refine ⟨?_, fun e => ?_⟩
    · rw [heq]
      exact (portClear_restall _ _ _).mpr (portClear_emptyQueue hclear)
    · rw [trunkReset_entries, ← Bool.not_eq_true]
      exact fun h => Bool.eq_false_iff.mp (hbound e) (entry_trunkReset_boundTo _ _ b _ h)
  · rw [trunkReset_branches] at hl
    have hno := branch_trunkReset_drainLend _ (hports b).drain
    exact absurd (hno.symm.trans hl) (by decide)
  · rw [trunkReset_windows] at hr
    exact absurd hr (window_trunkReset_not_retiring _)
  · rw [trunkReset_branches] at hd
    exact absurd hd (branch_trunkReset_not_draining _)

theorem trunkCheckFails_workOk {s : State} (hs : WorkOk s) : WorkOk s.trunkCheckFails := by
  unfold State.trunkCheckFails
  split
  · exact trunkReset_workOk true hs
  · exact hs

/-! ## CLEAR-PATH -/

theorem entry_clear_counted (x : Entry) : x.clear.counted = none := by
  cases x <;> rfl

theorem entry_clear_boundTo (b : BranchId) (x : Entry) (h : boundTo b x.clear = true) : boundTo b x = true := by
  cases x <;> simp_all [Entry.clear, boundTo]

/-- CLEAR-PATH keeps the account: nothing is in flight, and every wait has ended and is completed (R195). -/
theorem clearPath_workOk {s : State} (hs : WorkOk s) : WorkOk s.clearPath := by
  have hports := (workOk_account hs).ports
  unfold State.clearPath
  refine settle_workOk (account_of_nothing (fun e => ?_) (fun b => ?_) (fun w => ?_) (fun b ho => ?_) (fun b hl => ?_))
    (fun _ h => Bool.noConfusion h) (fun _ h => Bool.noConfusion h)
  · simp [entry_clear_counted]
  · simp
  · simp
  · obtain ⟨hclear, hbound⟩ := (hports b).out (by simpa using ho)
    refine ⟨?_, fun e => ?_⟩
    · simpa using portClear_emptyQueue hclear
    · rw [← Bool.not_eq_true]
      exact fun h => Bool.eq_false_iff.mp (hbound e) (entry_clear_boundTo b _ (by simpa using h))
  · simpa using (hports b).drain (by simpa using hl)

/-! ## Power-on reset -/

section
variable (p : Bool) (ps : Vector Bool 6) (q : List Instr)

theorem powerOn_windows (w : WindowId) : (State.powerOn p ps q).windows[w] = Window.blank := by
  simp [State.powerOn]

theorem powerOn_entries (e : EntryId) : (State.powerOn p ps q).entries[e] = .free := by
  simp [State.powerOn]

theorem powerOn_branches (b : BranchId) : (State.powerOn p ps q).branches[b] = Branch.powerOn ps[b] := by
  simp [State.powerOn]

theorem powerOn_lines (n : LineId) : (State.powerOn p ps q).lines[n] = Line.powerOn := by
  simp [State.powerOn]

theorem powerOn_workOk : WorkOk (State.powerOn p ps q) := by
  rw [workOk_iff]
  refine ⟨account_of_nothing (fun e => ?_) (fun b => ?_) (fun w => ?_) (fun b _ => ?_) (fun b hl => ?_), fun w hr => ?_,
    fun b hd => ?_⟩
  · rw [powerOn_entries]
    rfl
  · rw [powerOn_branches]
    rfl
  · rw [powerOn_windows]
    rfl
  · rw [powerOn_branches]
    exact ⟨⟨rfl, rfl, rfl, rfl, rfl, rfl, rfl, rfl⟩, fun e => by rw [powerOn_entries]; rfl⟩
  · rw [powerOn_branches] at hl
    exact Bool.noConfusion hl
  · rw [powerOn_windows] at hr
    exact WindowState.noConfusion hr
  · rw [powerOn_branches] at hd
    exact BranchState.noConfusion hd

end

end Sys2Proof.Machine
end

section
/-! Every command keeps the account of the work in flight. -/

namespace Sys2Proof.Machine

open Sys2Proof.Safety

/-! ## Windows and Branches -/

theorem answerNow_workOk {s : State} (c : Control) (st : ControlStatus) {ws : List Word} (hs : WorkOk s) :
    WorkOk (s.answerNow c st ws) :=
  workOk_of_frame hs (answerNow_frame s c st ws) (by decide)

theorem accept_workOk {s : State} (c : Control) (op : LongOp) (hs : WorkOk s) : WorkOk (s.accept c op) :=
  workOk_of_frame (ks := [.acc, .pcl]) hs (by simp [sameBut_iff]) (by decide)

theorem complete_workOk {s : State} (f : LongOp → Option ControlStatus) (hs : WorkOk s) : WorkOk (s.complete f) :=
  workOk_of_frame hs (complete_frame s f) (by decide)

/-- An empty record holds no count, so the record that LOAD-WINDOW places has the count that was there (R10, R12). -/
theorem loadWindow_workOk {s : State} (c : Control) (o : LoadWindowOperands) (hs : WorkOk s) : WorkOk (s.loadWindow c o) := by
  unfold State.loadWindow
  split
  · exact answerNow_workOk c .inUse hs
  case isFalse hempty =>
    split
    · exact answerNow_workOk c .overlap hs
    · have hzero : s.windows[o.index].inFlight = 0 := ((workOk_account hs).windows o.index).2 (not_not.mp hempty)
      exact answerNow_workOk c .done (setWindow_workOk hs hzero.symm (fun _ => rfl) fun hr => WindowState.noConfusion hr)

theorem retireWindow_workOk {s : State} (c : Control) (w : WindowId) (hs : WorkOk s) : WorkOk (s.retireWindow c w) := by
  unfold State.retireWindow
  split
  case h_1 => exact answerNow_workOk c .wrongState hs
  case h_2 => exact answerNow_workOk c .already hs
  case h_3 =>
    split
    case isTrue hzero =>
      exact answerNow_workOk c .done (setWindow_workOk hs hzero.symm (fun _ => rfl) fun hr => WindowState.noConfusion hr)
    case isFalse hcount =>
      split
      · exact answerNow_workOk c .busy hs
      · exact accept_workOk c _ (setWindow_workOk hs rfl (fun he => WindowState.noConfusion he)
          fun _ => Nat.pos_of_ne_zero hcount)

/-- A branch without work is in order FENCED or LENT (R91). -/
theorem enterFence_account {s : State} {b : BranchId} (lend : Bool) (ha : PortAccount s.entries b s.branches[b])
    (hstate : s.branches[b].state ≠ .draining) (hnone : s.holdsWork b = false) :
    PortAccount s.entries b (s.branches[b].enterFence lend) := by
  rw [← Bool.not_eq_true, holdsWork_iff_issuedOn, not_or, not_exists] at hnone
  obtain ⟨hqueue, hissued⟩ := hnone
  have hq : (s.branches[b].enterFence lend).queue = s.branches[b].queue := by cases lend <;> rfl
  have hl : (s.branches[b].enterFence lend).drainLend = s.branches[b].drainLend := by cases lend <;> rfl
  have hservice : (s.branches[b].enterFence lend).state.inService = true := by cases lend <;> rfl
  refine ⟨fun e => ?_, fun _ => ⟨hq.trans (not_not.mp hqueue), fun e => by simpa using hissued e⟩, fun ho => ?_, fun hd => ?_⟩
  · rw [hq]
    exact ha.items e
  · exact absurd (hservice.symm.trans ho) (by decide)
  · rw [hl] at hd
    exact absurd (ha.drain hd) hstate

theorem enterFence_not_draining (lend : Bool) (br : Branch) : (br.enterFence lend).state ≠ .draining := by
  cases lend <;> simp [Branch.enterFence]

theorem enterFence_workOk {s : State} {b : BranchId} (lend : Bool) (hs : WorkOk s) (hstate : s.branches[b].state ≠ .draining)
    (hnone : s.holdsWork b = false) : WorkOk (s.setBranch b (s.branches[b].enterFence lend)) :=
  setBranch_workOk hs (by cases lend <;> rfl) (enterFence_account lend ((workOk_account hs).ports b) hstate hnone)
    fun hd => absurd hd (enterFence_not_draining lend _)

/-- A FENCED branch holds no work (R91). -/
theorem fenced_no_work {s : State} {b : BranchId} (hs : WorkOk s) (hb : s.branches[b].state = .fenced) :
    s.holdsWork b = false := by
  obtain ⟨hqueue, hissued⟩ := ((workOk_account hs).ports b).idle (.inl hb)
  rw [← Bool.not_eq_true, holdsWork_iff_issuedOn]
  exact not_or.mpr ⟨not_not.mpr hqueue, fun ⟨e, he⟩ => Bool.eq_false_iff.mp (hissued e) he⟩

/-- A branch with work may begin to drain (R91). -/
theorem beginDrain_workOk {s : State} {b : BranchId} (lend : Bool) (hs : WorkOk s) (hwork : s.holdsWork b = true) :
    WorkOk (s.setBranch b { s.branches[b] with state := .draining, drainLend := lend }) :=
  setBranch_workOk hs rfl (.of_issues rfl ((workOk_account hs).ports b).items fun _ => rfl)
    fun _ => (holdsWork_iff_issuedOn s b).mp hwork

/-- A port written ACTIVE with its queue is in order when drain lend is no. -/
theorem activate_workOk {s : State} {b : BranchId} {br : Branch} (hs : WorkOk s) (hqueue : br.queue = s.branches[b].queue)
    (hactive : br.state = .active) (hlend : br.drainLend = false) : WorkOk (s.setBranch b br) := by
  refine setBranch_workOk hs hqueue (.of_issues (by rw [hactive]; rfl) (fun e => ?_) fun hd => ?_) fun hd => ?_
  · rw [hqueue]
    exact ((workOk_account hs).ports b).items e
  · exact absurd (hlend.symm.trans hd) (by decide)
  · exact BranchState.noConfusion (hactive.symm.trans hd)

/-- Drain lend is no outside DRAINING (R76). -/
theorem drainLend_eq_false {s : State} {b : BranchId} (hs : WorkOk s) (hb : s.branches[b].state ≠ .draining) :
    s.branches[b].drainLend = false :=
  Bool.eq_false_iff.mpr fun hd => hb (((workOk_account hs).ports b).drain hd)

/-- A port out of service written out of service and clear is in order. -/
theorem outOfService_workOk {s : State} {b : BranchId} {br : Branch} (hs : WorkOk s)
    (hold : s.branches[b].state.inService = false) (hnew : br.state.inService = false) (hqueue : br.queue = s.branches[b].queue)
    (hclear : PortClear s.branches[b] → PortClear br) : WorkOk (s.setBranch b br) := by
  have ha := (workOk_account hs).ports b
  obtain ⟨hclearOld, hbound⟩ := ha.out hold
  have hclearNew : PortClear br := hclear hclearOld
  have hnot {st : BranchState} (hst : st.inService = true) : br.state ≠ st := fun h => by
    rw [h, hst] at hnew
    cases hnew
  refine setBranch_workOk hs hqueue ⟨fun e => ?_, fun h => ?_, fun _ => ⟨hclearNew, hbound⟩, fun hd => ?_⟩
    fun hd => absurd hd (hnot rfl)
  · rw [hqueue]
    exact ha.items e
  · exact h.elim (fun h => absurd h (hnot rfl)) fun h => absurd h (hnot rfl)
  · exact absurd (hclearNew.2.2.2.1.symm.trans hd) (by decide)

theorem fenceBranch_workOk {s : State} (c : Control) (b : BranchId) (lend : Bool) (hs : WorkOk s) :
    WorkOk (s.fenceBranch c b lend) := by
  unfold State.fenceBranch
  dsimp only
  split
  case h_5 hactive =>
    have hne : s.branches[b].state ≠ .draining := by rw [hactive]; decide
    split
    case isTrue hnone => exact answerNow_workOk c .done (enterFence_workOk lend hs hne hnone)
    case isFalse hwork =>
      split
      · exact answerNow_workOk c .busy hs
      · exact accept_workOk c _ (beginDrain_workOk lend hs (by simpa using hwork))
  case h_6 hfenced =>
    have hne : s.branches[b].state ≠ .draining := by rw [hfenced]; decide
    exact answerNow_workOk c .done (enterFence_workOk lend hs hne (fenced_no_work hs hfenced))
  all_goals exact answerNow_workOk c _ hs

theorem unfenceBranch_workOk {s : State} (c : Control) (b : BranchId) (hs : WorkOk s) : WorkOk (s.unfenceBranch c b) := by
  unfold State.unfenceBranch
  dsimp only
  split
  case h_5 => exact answerNow_workOk c .done (complete_workOk _ (activate_workOk hs rfl rfl rfl))
  case h_6 hfenced =>
    exact answerNow_workOk c .done (activate_workOk hs rfl rfl (drainLend_eq_false hs (by rw [hfenced]; decide)))
  case h_7 hlent =>
    exact answerNow_workOk c .done (activate_workOk hs rfl rfl (drainLend_eq_false hs (by rw [hlent]; decide)))
  all_goals exact answerNow_workOk c _ hs

theorem resetWork_workOk {s : State} (seq : BitVec 8) (b : BranchId) (hs : WorkOk s) : WorkOk (s.resetWork seq b) := by
  unfold State.resetWork
  split
  · refine recordFault_workOk _ ?_
    exact workOk_of_frame (ks := [.ctlQ]) (lose_workOk (b := b) (st := .resetting) rfl (complete_workOk (abortFence b) hs))
      (by simp [sameBut_iff]) (by decide)
  · exact complete_workOk _ hs

/-- After a reset's work its branch is out of service (R97). -/
theorem resetWork_out (s : State) (seq : BitVec 8) (b : BranchId) :
    (s.resetWork seq b).branches[b].state.inService = false := by
  unfold State.resetWork
  split
  · simp [BranchState.inService]
  case isFalse h => simpa using h

theorem resetBranch_workOk {s : State} (c : Control) (b : BranchId) (hs : WorkOk s) : WorkOk (s.resetBranch c b) := by
  unfold State.resetBranch
  split
  · exact answerNow_workOk c .already hs
  · split
    · exact answerNow_workOk c .busy hs
    · refine accept_workOk c _ (outOfService_workOk (resetWork_workOk c.seq b hs) (resetWork_out s c.seq b) rfl rfl ?_)
      rintro ⟨h1, h2, h3, h4, h5, h6, h7, -⟩
      exact ⟨h1, h2, h3, h4, h5, h6, h7, rfl⟩

/-! ## Frames received -/

theorem countLate_workOk {s : State} (hs : WorkOk s) : WorkOk s.countLate :=
  workOk_of_frame (ks := attentionBlocks) hs (by simp [sameBut_iff, attentionBlocks]) (by decide)

theorem matchedReply_workOk {s : State} {e : EntryId} {h : Held} {d : Time} (b : BranchId) (st : ReplyStatus)
    (data : List Word) (hs : WorkOk s) (he : s.entries[e] = .issued h d) : WorkOk (s.matchedReply b e h st data) := by
  unfold State.matchedReply
  split
  · split
    · exact answerEntry_workOk false .ok data hs he
    · exact recordFault_workOk _ (answerEntry_workOk false .targetError [] hs he)
  · exact answerEntry_workOk false st [] hs he

theorem replyTo_workOk {s : State} (b : BranchId) (e : EntryId) (st : ReplyStatus) (data : List Word) (hs : WorkOk s) :
    WorkOk (s.replyTo b e st data) := by
  have hstray (k : BitVec 6) : WorkOk (s.strayReply b k) := recordFault_workOk _ hs
  unfold State.replyTo
  dsimp only
  split
  case h_1 he =>
    split
    · exact matchedReply_workOk b st data hs he
    · exact hstray _
  case h_2 h he =>
    split
    · exact countLate_workOk (setEntry_workOk hs (by rw [he]; rfl) rfl (by simp [boundTo]))
    · exact hstray _
  case h_3 h d he =>
    split
    · exact countLate_workOk (setEntry_workOk hs (by rw [he]; rfl) rfl (by simp [boundTo]))
    · exact hstray _
  all_goals exact hstray _

theorem takeReply_workOk {s : State} (b : BranchId) (t : BitVec 6) (st : ReplyStatus) (data : List Word) (hs : WorkOk s) :
    WorkOk (s.takeReply b t st data) := by
  unfold State.takeReply
  split
  · split
    · exact replyTo_workOk b _ st data hs
    · exact recordFault_workOk _ hs
  · exact hs

/-- A port in service that keeps its queue, its state and its drain lend keeps the account. -/
theorem setBranch_inService_workOk {s : State} {b : BranchId} {br : Branch} (hs : WorkOk s)
    (hin : s.branches[b].state.inService = true) (hqueue : br.queue = s.branches[b].queue)
    (hstate : br.state = s.branches[b].state) (hlend : br.drainLend = s.branches[b].drainLend) :
    WorkOk (s.setBranch b br) :=
  setBranch_update_workOk hs hqueue hstate hlend fun ho => absurd (hin.symm.trans ho) (by decide)

theorem takeCredit_workOk {s : State} (b : BranchId) (n : Nat) (hs : WorkOk s) : WorkOk (s.takeCredit b n) := by
  unfold State.takeCredit
  dsimp only
  split
  case isFalse => exact hs
  case isTrue hin =>
    split
    · exact setBranch_inService_workOk hs hin rfl rfl rfl
    · exact recordFault_workOk _ (setBranch_inService_workOk hs hin rfl rfl rfl)

theorem takeWithdraw_workOk {s : State} (b : BranchId) (hs : WorkOk s) : WorkOk (s.takeWithdraw b) := by
  have hset (hin : s.branches[b].state.inService = true) :
      WorkOk ((s.setBranch b { s.branches[b] with withdraw := true }).raiseInternal 3) :=
    raiseInternal_workOk 3 (setBranch_inService_workOk hs hin rfl rfl rfl)
  unfold State.takeWithdraw
  split
  case h_1 h => exact hset (by rw [h]; rfl)
  case h_2 h => exact hset (by rw [h]; rfl)
  case h_3 h => exact hset (by rw [h]; rfl)
  case h_4 => exact recordFault_workOk _ hs
  all_goals exact hs

/-- A branch that returns from LENT is FENCED, and holds no work (R88, R91). -/
theorem takeReturn_workOk {s : State} (b : BranchId) (hs : WorkOk s) : WorkOk (s.takeReturn b) := by
  unfold State.takeReturn
  split
  case h_1 hlent =>
    have ha := (workOk_account hs).ports b
    refine raiseInternal_workOk 4 (setBranch_workOk hs rfl ⟨ha.items, fun _ => ha.idle (.inr hlent), fun ho => ?_, fun hd => ?_⟩
      fun hd => BranchState.noConfusion hd)
    · cases ho
    · exact BranchState.noConfusion (hlent.symm.trans (ha.drain hd))
  case h_2 => exact recordFault_workOk _ hs
  case h_3 => exact recordFault_workOk _ hs
  case h_4 => exact recordFault_workOk _ hs
  all_goals exact hs

/-- A release mark is set on a branch in service alone (R68, R119). -/
theorem markRelease_workOk {s : State} (n : LineId) (hs : WorkOk s) : WorkOk (s.markRelease n) := by
  unfold State.markRelease
  split
  · split
    case isTrue h => exact setBranch_inService_workOk hs (Bool.and_eq_true_iff.mp h).2 rfl rfl rfl
    case isFalse => exact hs
  · exact hs

theorem takeAck_workOk {s : State} (v : BitVec 8) (hs : WorkOk s) : WorkOk (s.takeAck v) := by
  unfold State.takeAck
  split
  · exact hs
  · split
    · refine markRelease_workOk _ ?_
      exact workOk_of_frame (ks := [.deliveries, .lines]) hs (by simp [sameBut_iff]) (by decide)
    · exact workOk_of_frame (ks := attentionBlocks) hs (by simp [sameBut_iff, attentionBlocks]) (by decide)

/-! ## The branch links -/

theorem branchPartnerAppears_workOk {s : State} (b : BranchId) (hs : WorkOk s) :
    Leaves WorkOk (execBranchPartnerAppears b s) := by
  refine leaves_next ?_
  by_cases hdown : s.branches[b].state = .down ∧ s.branches[b].ignorePartner = false ∧ s.porst = false
  · exact outOfService_workOk hs (by rw [hdown.1]; rfl) (by rw [if_pos hdown]; rfl) rfl id
  · exact setBranch_update_workOk hs rfl (if_neg hdown) rfl fun _ => id

theorem branchTrained_workOk {s : State} (b : BranchId) (n : Nat) (hs : WorkOk s) : WorkOk (s.branchTrained b n) := by
  have hup (hne : s.branches[b].state ≠ .draining) : WorkOk (s.setBranch b (s.branches[b].enterService n)) :=
    activate_workOk hs rfl rfl (drainLend_eq_false hs hne)
  unfold State.branchTrained
  dsimp only
  split
  case h_1 h => exact raiseInternal_workOk 2 (hup (by rw [h]; decide))
  case h_2 h => exact raiseInternal_workOk 2 (complete_workOk _ (hup (by rw [h]; decide)))
  all_goals exact hs

theorem branchPartnerLost_workOk {s : State} (b : BranchId) (hs : WorkOk s) : Leaves WorkOk (execBranchPartnerLost b s) := by
  have hset : WorkOk (s.setBranch b { s.branches[b] with
      partner := false, ignorePartner := false
      state := if s.branches[b].state = .training then .down else s.branches[b].state }) := by
    by_cases htraining : s.branches[b].state = .training
    · exact outOfService_workOk hs (by rw [htraining]; rfl) (by rw [if_pos htraining]; rfl) rfl id
    · exact setBranch_update_workOk hs rfl (if_neg htraining) rfl fun _ => id
  refine leaves_next ?_
  split
  · exact lossBy_workOk b .signalLost hset
  · exact hset

theorem partnerWaitExpiry_workOk {s : State} (b : BranchId) (hs : WorkOk s) : Leaves WorkOk (execPartnerWaitExpiry b s) :=
  leaves_guard fun h => complete_workOk _ (outOfService_workOk hs (by rw [h.1]; rfl) rfl rfl id)

/-! ## Sends, deadlines and link control -/

/-- A frame sent on a branch in service keeps the account. -/
theorem sendRelease_workOk {s : State} (b : BranchId) (hs : WorkOk s) : Leaves WorkOk (execSendRelease b s) := by
  unfold execSendRelease
  dsimp only
  split
  case h_1 hchoice => exact leaves_next (setBranch_inService_workOk hs (choice_some hchoice).2 rfl rfl rfl)
  case h_2 => exact leaves_fault

theorem branchFrameSent_workOk {s : State} (b : BranchId) (hs : WorkOk s) :
    WorkOk (s.setBranch b { s.branches[b] with tx := none }) :=
  setBranch_update_workOk hs rfl rfl rfl fun _ ⟨h1, h2, h3, h4, h5, h6, h7, _⟩ => ⟨h1, h2, h3, h4, h5, h6, h7, rfl⟩

/-- The entry whose Reply is sent binds to no branch anew, and is counted as it was (R36). -/
theorem replySent_workOk {s : State} (o : Origin) (hs : WorkOk s) : WorkOk (s.replySent o) := by
  unfold State.replySent
  split
  case h_2 => exact returnCredit_workOk hs
  case h_1 e =>
    have hkeep : s.setEntry e s.entries[e] = s := by simp [State.setEntry]
    unfold Entry.sent
    split
    case h_1 h he => exact setEntry_workOk hs (by rw [he]; rfl) rfl (by simp [he, boundTo])
    case h_2 h he => exact setEntry_workOk hs (by rw [he]; rfl) rfl (by simp [boundTo])
    all_goals
      rename_i he
      rw [← he, hkeep]
      exact hs

theorem sendReply_workOk {s : State} (hs : WorkOk s) : Leaves WorkOk (execSendReply s) := by
  unfold execSendReply
  split
  · refine leaves_next (replySent_workOk _ ?_)
    exact workOk_of_frame (ks := [.replyQ, .trunk]) hs (by simp [sameBut_iff, State.transmit]) (by decide)
  · exact leaves_fault

theorem requestDeadlineExpiry_workOk {s : State} (e : EntryId) (hs : WorkOk s) :
    Leaves WorkOk (execRequestDeadlineExpiry e s) := by
  unfold execRequestDeadlineExpiry
  split
  case h_1 he => exact leaves_guard fun _ => answerEntry_workOk true .timeout [] hs he
  all_goals exact leaves_fault

theorem lingerExpiry_workOk {s : State} (e : EntryId) (hs : WorkOk s) : Leaves WorkOk (execLingerExpiry e s) := by
  unfold execLingerExpiry
  split
  case h_1 he => exact leaves_guard fun _ => setEntry_workOk hs (by rw [he]; rfl) rfl (by simp [boundTo])
  all_goals exact leaves_fault

/-- Settling again finds nothing and keeps the account. -/
theorem settle_again_workOk {s : State} (ws : WindowId → Bool) (bs : BranchId → Bool) (hs : WorkOk s) :
    WorkOk (s.settle ws bs) :=
  settle_workOk (workOk_account hs) (fun w _ => workOk_windowSettled hs w) fun b _ => workOk_portSettled hs b

/-- A branch that leaves power-on reset goes from DOWN to TRAINING or stays as it is (R78). -/
theorem leaveReset_workOk {s : State} (hs : WorkOk s) : Leaves WorkOk (execLeavePowerOnReset s) := by
  refine leaves_next ?_
  split
  · have hports := (workOk_account hs).ports
    refine workOk_of_ports hs rfl rfl (fun b => ?_) (fun b => ?_)
    · simp only [Fin.getElem_fin, Vector.getElem_ofFn]
      unfold Branch.leaveReset
      split <;> rfl
    · have hb : PortAccount s.entries b s.branches[b].leaveReset ∧ PortSettled s.entries b s.branches[b].leaveReset := by
        unfold Branch.leaveReset
        split
        case isTrue h =>
          have hdown : s.branches[b].state = .down := by simp_all
          have hout := (hports b).out (by rw [hdown]; rfl)
          refine ⟨⟨(hports b).items, fun h => ?_, fun _ => hout, fun hd => ?_⟩, fun hd => BranchState.noConfusion hd⟩
          · rcases h with h | h <;> cases h
          · exact absurd (hout.1.2.2.2.1.symm.trans hd) (by decide)
        case isFalse => exact ⟨hports b, workOk_portSettled hs b⟩
      simpa using hb
  · exact hs

/-! ## Every command -/

/-- A control command whose run keeps the account keeps it. -/
theorem command_workOk {α : Type} {isRow : Nat → Bool} {operands : Control → Option α} {run : Control → α → State → State}
    {s : State} (hs : WorkOk s) (hrun : ∀ (c : Control) (a : α) (u : State), WorkOk u → WorkOk (run c a u)) :
    Leaves WorkOk (takeControl isRow (fun c => withOperands (operands c) c (run c)) s) :=
  leaves_command workOk_readsOnly (by decide) (by decide) hs fun c a u _ hu => hrun c a u hu

/-- Every command keeps the account of the work in flight. -/
theorem exec_workOk (c : Instr) {s : State} (hs : WorkOk s) : Leaves WorkOk (exec c s) := by
  by_cases hw : ∀ k ∈ [Block.windows, .entries, .branches], k ∉ writes c
  · exact exec_keeps_of_frame workOk_readsOnly hs hw
  cases c <;> simp only [exec]
  case powerOnReset => exact leaves_next (powerOn_workOk _ _ _)
  case leavePowerOnReset => exact leaveReset_workOk hs
  case trunkCheckFailure => exact leaves_next (trunkCheckFails_workOk hs)
  case trunkResetSequenceReceived =>
    refine leaves_next ?_
    split
    · exact trunkReset_workOk false hs
    · exact hs
  case trunkPartnerLost =>
    have hlost (k : Trunk) : WorkOk { s with trunk := k } :=
      workOk_of_frame (ks := [.trunk]) hs (by simp [sameBut_iff]) (by decide)
    refine leaves_next ?_
    split
    · exact trunkReset_workOk false (hlost _)
    all_goals exact hlost _
  case intakeArrival f =>
    exact leaves_takeFrame (workOk_of_frame hs (arrive_frame _ s) (by decide)) (trunkCheckFails_workOk hs)
  case noticeAck f => exact leaves_takeFrame (takeAck_workOk _ hs) (trunkCheckFails_workOk hs)
  case trunkCreditReceived f => exact leaves_takeFrame hs (trunkCheckFails_workOk hs)
  case trunkUnexpectedFrame f =>
    exact leaves_takeFrame (workOk_of_frame hs (trunkUnexpected_frame _ s) (by decide)) (trunkCheckFails_workOk hs)
  case sendReply => exact sendReply_workOk hs
  case routeExamination => exact routeExamination_workOk hs
  case loadWindow => exact command_workOk hs fun c o u hu => loadWindow_workOk c o hu
  case retireWindow => exact command_workOk hs fun c w u hu => retireWindow_workOk c w hu
  case fenceBranch => exact command_workOk hs fun c o u hu => fenceBranch_workOk c o.1 o.2 hu
  case unfenceBranch => exact command_workOk hs fun c b u hu => unfenceBranch_workOk c b hu
  case resetBranch => exact command_workOk hs fun c b u hu => resetBranch_workOk c b hu
  case clearPath => exact command_workOk hs fun c _ u hu => answerNow_workOk c _ (clearPath_workOk hu)
  case branchPartnerAppears b => exact branchPartnerAppears_workOk b hs
  case branchTrainingComplete b n =>
    refine leaves_next ?_
    split
    · exact hs
    · exact branchTrained_workOk b _ hs
  case branchPartnerLost b => exact branchPartnerLost_workOk b hs
  case branchCheckFailure b => exact leaves_next (branchCheckFails_workOk b hs)
  case branchResetSequenceReceived b =>
    refine leaves_next ?_
    split
    · exact lossBy_workOk b .partnerReset hs
    · exact hs
  case stallTimerExpiry b => exact leaves_guard fun _ => lossBy_workOk b .stall (sendReset_workOk b hs)
  case partnerWaitExpiry b => exact partnerWaitExpiry_workOk b hs
  case branchReply b f => exact leaves_takeFrame (takeReply_workOk b _ _ _ hs) (branchCheckFails_workOk b hs)
  case branchCredit b f => exact leaves_takeFrame (takeCredit_workOk b _ hs) (branchCheckFails_workOk b hs)
  case branchNotice b f =>
    exact leaves_takeFrame (workOk_of_frame hs (takeNotice_frame b _ s) (by decide)) (branchCheckFails_workOk b hs)
  case withdraw b f => exact leaves_takeFrame (takeWithdraw_workOk b hs) (branchCheckFails_workOk b hs)
  case unitReturn b f => exact leaves_takeFrame (takeReturn_workOk b hs) (branchCheckFails_workOk b hs)
  case branchUnexpectedFrame b f =>
    exact leaves_takeFrame (workOk_of_frame hs (branchUnexpected_frame b _ s) (by decide)) (branchCheckFails_workOk b hs)
  case branchFrameSent b => exact leaves_next (branchFrameSent_workOk b hs)
  case sendGrant b =>
    exact leaves_guard fun h => setBranch_inService_workOk hs (choice_some h).2 rfl rfl rfl
  case sendReclaim b =>
    exact leaves_guard fun h => setBranch_inService_workOk hs (choice_some h).2 rfl rfl rfl
  case sendRelease b => exact sendRelease_workOk b hs
  case issueNonPosted b => exact issueNonPosted_workOk b hs
  case issuePosted b => exact issuePosted_workOk b hs
  case requestDeadlineExpiry e => exact requestDeadlineExpiry_workOk e hs
  case lingerExpiry e => exact lingerExpiry_workOk e hs
  case drainComplete b => exact leaves_next (settle_again_workOk _ _ hs)
  case retireComplete w => exact leaves_next (settle_again_workOk _ _ hs)
  all_goals simp [writes, controlAnswerBlocks, attentionBlocks] at hw

/-- Settles O59: the account is kept by every shared operation, and a wait that an event ends is completed within the event. -/
theorem invariantWork : Obligations.InvariantWork :=
  fun _ t hs h => step_keeps workOk_readsOnly (by decide) (fun c _ => exec_workOk c) hs t h

end Sys2Proof.Machine
end

section
/-! The windows' control commands (R11 to R15) and READ-LINE (R125): what each leaves of the state. -/

namespace Sys2Proof.Machine

open Sys2Proof.Safety

/-! ## A control command at the head of the intake -/

/-- A control command with its operands in range executes its run on the state with the frame taken (R132, R177). -/
theorem takeControl_operands {α : Type} {isRow : Nat → Bool} {operands : Control → Option α} {run : Control → α → State → State}
    {s : State} {c : Control} {rest : List IntakeFrame} {a : α} (h : s.intake = .control c :: rest)
    (hr : isRow c.command.toNat = true) (ha : operands c = some a) :
    takeControl isRow (fun c => withOperands (operands c) c (run c)) s = .next (run c a { s with intake := rest }) := by
  rw [takeControl_row h hr, ha]
  rfl

/-- An answer on the state with the frame taken is an answer and nothing else (R148). -/
theorem answerNow_answeredOnly (s : State) (c : Control) (rest : List IntakeFrame) (st : ControlStatus) (ws : List Word) :
    AnsweredOnly c rest st ws s ({ s with intake := rest }.answerNow c st ws) :=
  ⟨⟨rfl, rfl⟩, by simp [sameBut_iff]⟩

/-- A number below 2^32 is read back from its word. -/
theorem word_toNat {n : Nat} (h : n < 2 ^ 32) : (word n).toNat = n := Nat.mod_eq_of_lt h

/-- The word of an index reads as the index. -/
theorem oneBelow_word {n : Nat} (hn : n ≤ 2 ^ 32) (i : Fin n) : oneBelow n [word i.val] = some i := by
  have hword : (word i.val).toNat = i.val := word_toNat (i.isLt.trans_le hn)
  simp [oneBelow, hword]

/-! ## RETIRE-WINDOW -/

theorem execRetireWindow_eq {s : State} {c : Control} {rest : List IntakeFrame} {i : WindowId}
    (h : s.intake = .control c :: rest) (hc : c.command = 3) (ho : c.operands = [word i.val]) :
    exec .retireWindow s = .next (State.retireWindow c i { s with intake := rest }) := by
  show execRetireWindow s = _
  exact takeControl_operands h (by rw [hc]; rfl) (by rw [ho]; exact oneBelow_word (by decide) i)

theorem retireWindow_empty {s : State} (c : Control) {w : WindowId} (h : s.windows[w].state = .empty) :
    s.retireWindow c w = s.answerNow c .wrongState [] := by
  unfold State.retireWindow
  rw [h]

theorem retireWindow_retiring {s : State} (c : Control) {w : WindowId} (h : s.windows[w].state = .retiring) :
    s.retireWindow c w = s.answerNow c .already [] := by
  unfold State.retireWindow
  rw [h]

/-- RETIRE-WINDOW on a LIVE record: at once without work, BUSY on a full list, accepted otherwise (R14, R15). -/
theorem retireWindow_live {s : State} (c : Control) {w : WindowId} (h : s.windows[w].state = .live) :
    s.retireWindow c w =
      if s.windows[w].inFlight = 0 then (s.setWindow w Window.blank).answerNow c .done []
      else if Config.pclCapacity ≤ s.pcl.length then s.answerNow c .busy []
      else (s.setWindow w { s.windows[w] with state := .retiring }).accept c (.retire w) := by
  unfold State.retireWindow
  rw [h]

/-- Settles O27, by the state of the record, its count and the room in the Pending Control List. -/
theorem retireWindowResult : Obligations.RetireWindowResult := by
  intro c rest i s h hc ho
  rw [execRetireWindow_eq h hc ho]
  refine ⟨fun hw => ⟨_, rfl, ?_⟩, fun hw => ⟨_, rfl, ?_⟩, fun hw hn => ⟨_, rfl, ?_⟩, fun hw hn hp => ⟨_, rfl, ?_⟩,
    fun hw hn hp => ⟨_, rfl, ?_⟩⟩
  · rw [retireWindow_empty (s := { s with intake := rest }) c hw]
    exact answerNow_answeredOnly s c rest .wrongState []
  · rw [retireWindow_retiring (s := { s with intake := rest }) c hw]
    exact answerNow_answeredOnly s c rest .already []
  · rw [retireWindow_live (s := { s with intake := rest }) c hw, if_pos hn]
    exact ⟨⟨rfl, rfl⟩, setWindow_self _ i _, setWindow_other s i _, by simp [sameBut_iff]⟩
  · rw [retireWindow_live (s := { s with intake := rest }) c hw, if_neg hn.ne',
      if_pos (c := Config.pclCapacity ≤ s.pcl.length) hp]
    exact answerNow_answeredOnly s c rest .busy []
  · rw [retireWindow_live (s := { s with intake := rest }) c hw, if_neg hn.ne',
      if_neg (c := Config.pclCapacity ≤ s.pcl.length) (not_le.mpr hp)]
    exact ⟨⟨rfl, rfl, rfl⟩, setWindow_self _ i _, setWindow_other s i _, by simp [sameBut_iff]⟩

/-! ## READ-WINDOW and READ-LINE -/

theorem execReadWindow_eq {s : State} {c : Control} {rest : List IntakeFrame} {i : WindowId}
    (h : s.intake = .control c :: rest) (hc : c.command = 2) (ho : c.operands = [word i.val]) :
    exec .readWindow s = .next ({ s with intake := rest }.answerNow c .done s.windows[i].report) := by
  show execReadWindow s = _
  exact takeControl_operands h (by rw [hc]; rfl) (by rw [ho]; exact oneBelow_word (by decide) i)

theorem execReadLine_eq {s : State} {c : Control} {rest : List IntakeFrame} {n : LineId}
    (h : s.intake = .control c :: rest) (hc : c.command = 5) (ho : c.operands = [word n.val]) :
    exec .readLine s = .next ({ s with intake := rest }.answerNow c .done (s.lineReport n)) := by
  show execReadLine s = _
  exact takeControl_operands h (by rw [hc]; rfl) (by rw [ho]; exact oneBelow_word (by decide) n)

/-- The items of a line that is not DELIVERED are the six of its record (R125). -/
theorem lineReport_not_delivered {s : State} {n : LineId} (h : s.lines[n].state ≠ .delivered) : s.lineReport n =
    [flagWord s.lines[n].enable, word s.lines[n].priority.toNat, word s.lines[n].vector.toNat, flagWord s.lines[n].release,
     word s.lines[n].state.code, flagWord s.lines[n].again] := by
  simp only [State.lineReport, if_neg h, List.append_nil]

/-- The delivery items are those of the line's oldest record, its position counted from 1 (R125). -/
theorem deliveryReport_append {s : State} {n : LineId} {pre post : List Delivery} {d : Delivery}
    (h : s.deliveries = pre ++ d :: post) (hd : d.line = n) (hpre : ∀ x ∈ pre, x.line ≠ n) :
    s.deliveryReport n = [word d.vector.toNat, word d.resends, word (pre.length + 1)] := by
  have hfind : s.deliveries.find? (fun x => decide (x.line = n)) = some d := by
    rw [h, List.find?_append, List.find?_eq_none.mpr (by simpa using hpre)]
    simp [hd]
  have hindex : s.deliveries.findIdx (fun x => decide (x.line = n)) = pre.length := by
    rw [h, List.findIdx_append, List.findIdx_eq_length_of_false (by simpa using hpre)]
    simp [List.findIdx_cons, hd]
  simp only [State.deliveryReport, hfind, hindex]

theorem lineReport_delivered {s : State} {n : LineId} {pre post : List Delivery} {d : Delivery}
    (hn : s.lines[n].state = .delivered) (h : s.deliveries = pre ++ d :: post) (hd : d.line = n)
    (hpre : ∀ x ∈ pre, x.line ≠ n) : s.lineReport n =
    [flagWord s.lines[n].enable, word s.lines[n].priority.toNat, word s.lines[n].vector.toNat, flagWord s.lines[n].release,
     word s.lines[n].state.code, flagWord s.lines[n].again, word d.vector.toNat, word d.resends, word (pre.length + 1)] := by
  simp only [State.lineReport, if_pos hn, deliveryReport_append h hd hpre, List.cons_append, List.nil_append]

/-- Settles O25: the codes of the states are those of the tables, and the run of either command is its answer. -/
theorem readWindowAndLine : Obligations.ReadWindowAndLine := by
  refine ⟨fun c rest i s h hc ho => ?_, fun c rest n s h hc ho => ⟨fun hn => ?_, fun pre post d hn hs hd hpre => ?_⟩⟩
  · refine ⟨_, execReadWindow_eq h hc ho, ?_⟩
    have hanswer := answerNow_answeredOnly s c rest .done s.windows[i].report
    unfold Window.report at hanswer ⊢
    cases hw : s.windows[i].state <;> rw [hw] at hanswer <;> exact hanswer
  · refine ⟨_, execReadLine_eq h hc ho, ?_⟩
    have hanswer := answerNow_answeredOnly s c rest .done (s.lineReport n)
    rw [lineReport_not_delivered hn] at hanswer ⊢
    cases hl : s.lines[n].state <;> rw [hl] at hanswer <;> exact hanswer
  · refine ⟨_, execReadLine_eq h hc ho, ?_⟩
    have hanswer := answerNow_answeredOnly s c rest .done (s.lineReport n)
    rw [lineReport_delivered hn hs hd hpre, hn] at hanswer
    rw [lineReport_delivered hn hs hd hpre, hn]
    exact hanswer

/-! ## LOAD-WINDOW -/

/-- The rights that a sum names, bit by bit (R171). -/
theorem rights_ofCode (n : Nat) :
    Rights.ofCode n = ⟨n % 2 = 1, n / 2 % 2 = 1, n / 4 % 2 = 1, n / 8 % 2 = 1⟩ := by
  simp [Rights.ofCode, Nat.testBit_eq_decide_div_mod_eq]

/-- Operands in range read as what they name (R11). -/
theorem loadWindowOperands_read {i : WindowId} {bp sp tp ri : Nat} {b : BranchId} {cl : Fin 4}
    (hr : OperandsInRange 1 [word i.val, word bp, word sp, word b.val, word tp, word ri, word cl.val]) (hbp : bp < 2 ^ 32)
    (hsp : sp < 2 ^ 32) (htp : tp < 2 ^ 32) (hri : ri < 2 ^ 32) :
    LoadWindowOperands.read [word i.val, word bp, word sp, word b.val, word tp, word ri, word cl.val] =
      some ⟨i, bp, sp, b, tp, Rights.ofCode ri, cl⟩ := by
  have hi : (word i.val).toNat = i.val := word_toNat (i.isLt.trans (by norm_num))
  have hb : (word b.val).toNat = b.val := word_toNat (b.isLt.trans (by norm_num))
  have hcl : (word cl.val).toNat = cl.val := word_toNat (cl.isLt.trans (by norm_num))
  obtain ⟨-, hbase, hsize, -, hend, -, -, htarget, hrights, -⟩ := hr
  rw [word_toNat hbp] at hbase hend
  rw [word_toNat hsp] at hsize hend htarget
  rw [word_toNat htp] at htarget
  rw [word_toNat hri] at hrights
  have hrange : bp < Config.addressPages ∧ 1 ≤ sp ∧ bp + sp ≤ Config.addressPages ∧ tp + sp ≤ Config.addressPages ∧ ri < 16 := by
    simp only [Config.addressPages]
    omega
  simp only [LoadWindowOperands.read, hi, hb, hcl, word_toNat hbp, word_toNat hsp, word_toNat htp, word_toNat hri,
    dif_pos (And.intro i.isLt (And.intro b.isLt cl.isLt)), if_pos hrange]

/-- A range shares a byte with some record that is not EMPTY (R12). -/
theorem any_overlaps_iff (s : State) (o : LoadWindowOperands) :
    ((List.finRange 32).any fun i => s.windows[i].overlaps o.window) = true ↔
      ∃ v : WindowId, s.windows[v].state ≠ .empty ∧ s.windows[v].base < (o.basePage + o.sizePages) * 4096 ∧
        o.basePage * 4096 < s.windows[v].base + s.windows[v].size := by
  have hone (v : Window) : v.overlaps o.window = true ↔ v.state ≠ .empty ∧ v.base < (o.basePage + o.sizePages) * 4096 ∧
      o.basePage * 4096 < v.base + v.size := by
    simp only [Window.overlaps, Bool.and_eq_true, decide_eq_true_eq]
    simp [LoadWindowOperands.window, Config.pageBytes, Nat.add_mul, and_assoc]
  rw [List.any_eq_true]
  exact ⟨fun ⟨v, _, hv⟩ => ⟨v, (hone _).mp hv⟩, fun ⟨v, hv⟩ => ⟨v, List.mem_finRange v, (hone _).mpr hv⟩⟩

/-- Settles O24: the operands read as they are given, and the three steps of R12 decide in their order. -/
theorem loadWindowResult : Obligations.LoadWindowResult := by
  intro c rest i bp sp b tp ri cl s h hc ho hr hbp hsp htp hri
  rw [ho] at hr
  have hread := loadWindowOperands_read hr hbp hsp htp hri
  have hexec : exec .loadWindow s =
      .next (State.loadWindow c ⟨i, bp, sp, b, tp, Rights.ofCode ri, cl⟩ { s with intake := rest }) := by
    show execLoadWindow s = _
    exact takeControl_operands h (by rw [hc]; rfl) (by rw [ho]; exact hread)
  have hoverlap := any_overlaps_iff s ⟨i, bp, sp, b, tp, Rights.ofCode ri, cl⟩
  rw [hexec]
  unfold State.loadWindow
  refine ⟨fun hw => ⟨_, rfl, ?_⟩, fun hw hv => ⟨_, rfl, ?_⟩, fun hw hv => ⟨_, rfl, ?_⟩⟩
  · rw [if_pos hw]
    exact answerNow_answeredOnly s c rest .inUse []
  · rw [if_neg (not_not.mpr hw), if_pos (hoverlap.mpr hv)]
    exact answerNow_answeredOnly s c rest .overlap []
  · rw [if_neg (not_not.mpr hw), if_neg (hoverlap.not.mpr hv)]
    refine ⟨⟨rfl, rfl⟩, ?_, setWindow_other s i _, by simp [sameBut_iff]⟩
    rw [State.answerNow_windows, setWindow_self, ← rights_ofCode]
    rfl

end Sys2Proof.Machine
end

section
/-! The Route Unit: what each step of an examination asks (7.3), in the terms of the rules, and what routing leaves (R22, R60, R137). -/

namespace Sys2Proof.Machine

open Sys2Proof.Safety

/-! ## The steps of an examination -/

theorem ofCode_eq_some_iff (c : BitVec 3) (o : Op) : Op.ofCode c = some o ↔ c = o.code := by
  revert c
  cases o <;> decide

theorem ofCode_eq_none_iff (c : BitVec 3) : Op.ofCode c = none ↔ 3 < c.toNat := by
  revert c
  decide

theorem isPosted_iff (r : Request) : r.isPosted = true ↔ r.op = 2 := by
  rw [Request.isPosted, decide_eq_true_eq, ofCode_eq_some_iff]
  rfl

/-- A request is well formed when it meets the conditions of R134. -/
theorem malformed_eq_false_iff (r : Request) : r.malformed = false ↔ GoodRequest r := by
  unfold Request.malformed GoodRequest
  cases ho : Op.ofCode r.op with
  | none =>
    have hcode := (ofCode_eq_none_iff r.op).mp ho
    simp only [Bool.true_eq_false, false_iff]
    omega
  | some o =>
    have hcode := (ofCode_eq_some_iff r.op o).mp ho
    have hzero : r.length = 0 ↔ r.length.toNat = 0 := by simp [BitVec.toNat_eq]
    simp only [Bool.or_eq_false_iff, Bool.and_eq_false_iff, decide_eq_false_iff_not, hzero, not_not, hcode]
    cases o <;> simp [Op.code, Op.dataWords, Nat.one_le_iff_ne_zero, and_assoc]

theorem tagInUse_iff (s : State) (t : BitVec 6) :
    s.tagInUse t = true ↔ ∃ (e : EntryId) (h : Held), s.entries[e].tagHeld = some h ∧ h.tag = t := by
  have hone (x : Entry) : (match x.tagHeld with
      | some h => decide (h.tag = t)
      | none => false) = true ↔ ∃ h : Held, x.tagHeld = some h ∧ h.tag = t := by
    cases x.tagHeld <;> simp
  unfold State.tagInUse
  rw [List.any_eq_true]
  exact ⟨fun ⟨e, _, he⟩ => ⟨e, (hone _).mp he⟩, fun ⟨e, he⟩ => ⟨e, List.mem_finRange e, (hone _).mpr he⟩⟩

theorem duplicate_iff (s : State) (r : Request) : (!r.isPosted && s.tagInUse r.tag) = true ↔ Duplicate s r := by
  rw [Bool.and_eq_true, Bool.not_eq_true', ← Bool.not_eq_true, isPosted_iff, tagInUse_iff]
  rfl

theorem covers_iff (w : Window) (a : Word) : w.covers a = true ↔ Contains w a := by
  simp only [Window.covers, Contains, Bool.and_eq_true, decide_eq_true_eq, and_assoc]
  refine and_congr_right fun _ => ?_
  omega

/-- Two windows that contain one address overlap (R12). -/
theorem overlaps_of_covers {v w : Window} {a : Word} (hv : v.covers a = true) (hw : w.covers a = true) :
    v.overlaps w = true := by
  have hvs := live_of_covers hv
  have hws := live_of_covers hw
  simp only [Window.covers, Bool.and_eq_true, decide_eq_true_eq] at hv hw
  simp only [Window.overlaps, hvs, hws, Bool.and_eq_true, decide_eq_true_eq]
  refine ⟨⟨⟨by decide, by decide⟩, ?_⟩, ?_⟩ <;> omega

/-- The search finds the one window that contains the address (R3). -/
theorem lookup_of_contains {s : State} {a : Word} {w : WindowId} (hs : WindowsOk s) (h : Contains s.windows[w] a) :
    s.lookup a = some w := by
  have hw := (covers_iff _ a).mpr h
  cases hl : s.lookup a with
  | none => exact absurd hw (List.find?_eq_none.mp hl w (List.mem_finRange w))
  | some v =>
    have hv : s.windows[v].covers a = true := List.find?_some (p := fun v : WindowId => s.windows[v].covers a) hl
    by_contra hne
    have hdisjoint := hs.2 v w fun heq => hne (congrArg some heq)
    rw [overlaps_of_covers hv hw] at hdisjoint
    cases hdisjoint

theorem lookup_eq_none {s : State} {a : Word} (h : ∀ w : WindowId, ¬Contains s.windows[w] a) : s.lookup a = none :=
  List.find?_eq_none.mpr fun w _ => by rw [covers_iff]; exact h w

theorem freeEntry_isSome_iff (s : State) : s.freeEntry.isSome = true ↔ ∃ e : EntryId, s.entries[e] = .free := by
  rw [State.freeEntry, List.find?_isSome]
  simp

theorem hasRoom_iff (s : State) (r : Request) (b : BranchId) : s.hasRoom r b = true ↔
    s.branches[b].queue.length < 8 ∧ (r.op = 2 ∨ ∃ e : EntryId, s.entries[e] = .free) := by
  rw [State.hasRoom, Bool.and_eq_true, decide_eq_true_eq, Bool.or_eq_true, isPosted_iff, freeEntry_isSome_iff]
  rfl

/-- The right that an op needs, by the op's code (R5). -/
theorem allows_iff (k : Rights) (o : Op) : k.allows o = true ↔
    (o.code = 0 ∧ k.read = true) ∨ (o.code = 1 ∧ k.write = true) ∨ (o.code = 2 ∧ k.posted = true) ∨
      (o.code = 3 ∧ k.swap = true) := by
  cases o <;> simp [Rights.allows, Op.code]

/-! ## The verdict -/

theorem examine_malformed {s : State} {r : Request} (h : ¬GoodRequest r) : s.examine r = .refuse .malformed none := by
  unfold State.examine
  rw [if_pos (by simpa using (malformed_eq_false_iff r).not.mpr h)]

theorem examine_duplicate {s : State} {r : Request} (h : GoodRequest r) (hd : Duplicate s r) : s.examine r = .duplicate := by
  unfold State.examine
  rw [if_neg (by simp [(malformed_eq_false_iff r).mpr h]), if_pos ((duplicate_iff s r).mpr hd)]

/-- The op of a well-formed request. -/
theorem op_of_goodRequest {r : Request} (h : GoodRequest r) : ∃ o : Op, Op.ofCode r.op = some o := by
  rw [← Option.ne_none_iff_exists', Ne, ofCode_eq_none_iff]
  exact not_lt.mpr h.1

theorem examine_no_route {s : State} {r : Request} (h : GoodRequest r) (hd : ¬Duplicate s r)
    (hw : ∀ w : WindowId, ¬Contains s.windows[w] r.address) : s.examine r = .refuse .noRoute none := by
  obtain ⟨o, ho⟩ := op_of_goodRequest h
  unfold State.examine
  rw [if_neg (by simp [(malformed_eq_false_iff r).mpr h]), if_neg ((duplicate_iff s r).not.mpr hd), ho, lookup_eq_none hw]

/-- A well-formed request that is no duplicate is examined in the window that contains it. -/
theorem examine_in {s : State} {r : Request} {o : Op} {w : WindowId} (hs : WindowsOk s) (h : GoodRequest r)
    (hd : ¬Duplicate s r) (ho : Op.ofCode r.op = some o) (hw : Contains s.windows[w] r.address) :
    s.examine r = s.examineIn r o w := by
  unfold State.examine
  rw [if_neg (by simp [(malformed_eq_false_iff r).mpr h]), if_neg ((duplicate_iff s r).not.mpr hd), ho,
    lookup_of_contains hs hw]

/-- The last byte of a request lies in a window that contains its first (R4). -/
theorem holds_iff {w : Window} {a : Word} (l : BitVec 5) (h : Contains w a) :
    w.holds a l = true ↔ a.toNat + 4 * l.toNat - 1 ≤ w.base + w.size - 1 := by
  obtain ⟨-, -, -, hsize⟩ := h
  rw [Window.holds, decide_eq_true_eq]
  omega

theorem examineIn_boundary {s : State} {r : Request} {o : Op} {w : WindowId}
    (h : s.windows[w].holds r.address r.length = false) :
    s.examineIn r o w = .refuse .boundary (some s.windows[w].branch) := by
  simp only [State.examineIn, if_pos h]

theorem examineIn_denied {s : State} {r : Request} {o : Op} {w : WindowId}
    (h : s.windows[w].holds r.address r.length = true) (ha : s.windows[w].rights.allows o = false) :
    s.examineIn r o w = .refuse .denied (some s.windows[w].branch) := by
  simp only [State.examineIn, h, ha, Bool.true_eq_false, if_false, if_true]

theorem examineIn_hopLimit {s : State} {r : Request} {o : Op} {w : WindowId}
    (h : s.windows[w].holds r.address r.length = true) (ha : s.windows[w].rights.allows o = true) (hr : r.hop = 0) :
    s.examineIn r o w = .refuse .hopLimit (some s.windows[w].branch) := by
  simp only [State.examineIn, h, ha, hr, Bool.true_eq_false, if_false, if_true]

/-- With a hop to spend, a branch that is not ACTIVE refuses (R86). -/
theorem examineIn_refused {s : State} {r : Request} {o : Op} {w : WindowId} {st : ReplyStatus}
    (h : s.windows[w].holds r.address r.length = true) (ha : s.windows[w].rights.allows o = true) (hr : r.hop ≠ 0)
    (hst : s.branches[s.windows[w].branch].state.refusal = some st) :
    s.examineIn r o w = .refuse st (some s.windows[w].branch) := by
  simp only [State.examineIn, h, ha, if_neg hr, hst, Bool.true_eq_false, if_false]

/-- On an ACTIVE branch the room decides (R136). -/
theorem examineIn_active {s : State} {r : Request} {o : Op} {w : WindowId}
    (h : s.windows[w].holds r.address r.length = true) (ha : s.windows[w].rights.allows o = true) (hr : r.hop ≠ 0)
    (hst : s.branches[s.windows[w].branch].state = .active) :
    s.examineIn r o w = if s.hasRoom r s.windows[w].branch then .route w else .wait := by
  simp only [State.examineIn, h, ha, if_neg hr, hst, BranchState.refusal, Bool.true_eq_false, if_false]

/-- Settles O18: the checks are those of the rules, and each step is reached only when those before it pass. -/
theorem examinationOrder : Obligations.ExaminationOrder := by
  intro r s hs
  refine ⟨examine_malformed, examine_duplicate, fun hgood hdup => ⟨examine_no_route hgood hdup, fun w hw => ?_⟩⟩
  obtain ⟨o, ho⟩ := op_of_goodRequest hgood
  have hcode := (ofCode_eq_some_iff r.op o).mp ho
  have hholds := holds_iff r.length hw
  have hallows := allows_iff s.windows[w].rights o
  rw [← hcode] at hallows
  rw [examine_in hs hgood hdup ho hw]
  refine ⟨fun hlast => ?_, fun hlast => ⟨fun hdenied => ?_, fun hallowed hhop => ?_, fun hallowed hhop => ?_⟩⟩
  · exact examineIn_boundary (Bool.eq_false_iff.mpr fun hc => absurd (hholds.mp hc) (not_le.mpr hlast))
  · exact examineIn_denied (hholds.mpr hlast) (Bool.eq_false_iff.mpr fun hc => hdenied (hallows.mp hc))
  · exact examineIn_hopLimit (hholds.mpr hlast) (hallows.mpr hallowed) hhop
  · have hlast := hholds.mpr hlast
    have hallowed := hallows.mpr hallowed
    refine ⟨fun hst => ?_, fun hst => ?_, fun hst => ⟨fun hroom => ?_, fun hfull => ?_⟩⟩
    · exact examineIn_refused hlast hallowed hhop (by rcases hst with hst | hst | hst <;> rw [hst] <;> rfl)
    · exact examineIn_refused hlast hallowed hhop (by rcases hst with hst | hst | hst <;> rw [hst] <;> rfl)
    · rw [examineIn_active hlast hallowed hhop hst, if_pos ((hasRoom_iff s r _).mpr hroom)]
    · have hnoroom : ¬s.hasRoom r s.windows[w].branch = true := by
        rw [hasRoom_iff]
        rintro ⟨hlt, hfree⟩
        rcases hfull with hge | ⟨hop, hnone⟩
        · exact absurd hlt (not_lt.mpr hge)
        · exact hfree.elim hop fun ⟨e, he⟩ => hnone e he
      rw [examineIn_active hlast hallowed hhop hst, if_neg hnoroom]

end Sys2Proof.Machine
end

section
/-! Routing (R22, R60, R137): the entry or the posted item, the queue's tail, the window's count and the credit. -/

namespace Sys2Proof.Machine

open Sys2Proof.Safety

theorem execRouteExamination_route {s : State} {r : Request} {rest : List IntakeFrame} {w : WindowId}
    (h : s.intake = .request r :: rest) (hv : s.examine r = .route w) :
    exec .routeExamination s = .next (State.routeVia r w { s with intake := rest }) := by
  show execRouteExamination s = _
  unfold execRouteExamination
  simp only [h, hv]

theorem nonPosted_toOp (o : NpOp) : o.toOp.nonPosted = some o := by
  cases o <;> rfl

/-- A non-posted request takes the lowest FREE entry (R22). -/
theorem routeVia_nonPosted {s : State} {r : Request} {w : WindowId} {o : NpOp} {e : EntryId}
    (ho : Op.ofCode r.op = some o.toOp) (hfree : s.entries[e] = .free)
    (hlow : ∀ f : EntryId, f < e → s.entries[f] ≠ .free) :
    s.routeVia r w = State.returnCredit (State.countIn w (State.append s.windows[w].branch (.nonPosted e)
      (s.setEntry e (.queued (r.held o w s.windows[w]) r.data)))) := by
  have hop : (Op.ofCode r.op).bind Op.nonPosted = some o := by rw [ho, Option.bind_some, nonPosted_toOp]
  have hentry : s.freeEntry = some e :=
    (find?_finRange_eq_some _ e).mpr ⟨decide_eq_true hfree, fun f hf => decide_eq_false (hlow f hf)⟩
  simp only [State.routeVia, hop, hentry]

/-- A POSTED-WRITE takes an item of its own (R60). -/
theorem routeVia_posted {s : State} {r : Request} {w : WindowId} (hr : r.op = 2) :
    s.routeVia r w = State.returnCredit (State.countIn w (State.append s.windows[w].branch
      (.posted w (s.windows[w].translate r.address) r.length (r.hop - 1) r.data) s)) := by
  have hop : (Op.ofCode r.op).bind Op.nonPosted = none := by rw [hr]; rfl
  simp only [State.routeVia, hop]

/-- A branch with an item appended: its queue's tail, and the stall timer following its conditions (R60, R71). -/
theorem append_self (s : State) (b : BranchId) (i : Item) : (s.append b i).branches[b] =
    Branch.restall s.timeBase s.timing.stall { s.branches[b] with queue := s.branches[b].queue ++ [i] } :=
  setBranch_self s b _

theorem countIn_self (s : State) (w : WindowId) :
    (s.countIn w).windows[w] = { s.windows[w] with inFlight := s.windows[w].inFlight + 1 } :=
  setWindow_self s w _

theorem countIn_other (s : State) (w : WindowId) : OtherWindows w s (s.countIn w) :=
  setWindow_other s w _

/-- Settles O21: routing is the three writes of one record each and the credit, on the state with the request taken. -/
theorem routing : Obligations.Routing := by
  intro r rest w s h hv
  rw [execRouteExamination_route h hv]
  refine ⟨fun o e ho hfree hlow => ⟨_, rfl, ?_⟩, fun hr => ⟨_, rfl, ?_⟩⟩
  · rw [routeVia_nonPosted (s := { s with intake := rest }) ho hfree hlow]
    refine ⟨rfl, rfl, setEntry_self s e _, setEntry_other s e _, ?_, ?_, ?_, ?_, ?_⟩
    · exact append_self ({ s with intake := rest }.setEntry e _) _ _
    · exact append_other ({ s with intake := rest }.setEntry e _) _ _
    · exact countIn_self _ w
    · exact countIn_other _ w
    · simp [sameBut_iff, State.countIn]
  · rw [routeVia_posted (s := { s with intake := rest }) hr]
    refine ⟨rfl, rfl, ?_, ?_, ?_, ?_, ?_⟩
    · exact append_self { s with intake := rest } _ _
    · exact append_other { s with intake := rest } _ _
    · exact countIn_self _ w
    · exact countIn_other _ w
    · simp [sameBut_iff, State.countIn]

end Sys2Proof.Machine
end

section
/-! Completions (R17, R93, R183): what leaves the Pending Control List and what is placed for it, and what settling does to each window
and each branch. -/

namespace Sys2Proof.Machine

open Sys2Proof.Safety

/-! ## The records -/

/-- The COMPLETION record of an operation that ends with a status (R183). -/
def completionOf (f : LongOp → Option ControlStatus) (r : PendingControl) : Option ControlReply :=
  (f r.op).map fun st => ⟨r.seq, st, [], .completion⟩

theorem complete_pcl (s : State) (f : LongOp → Option ControlStatus) :
    (s.complete f).pcl = s.pcl.filter fun r => decide (f r.op = none) := by
  unfold State.complete
  refine List.filter_congr fun r _ => ?_
  cases f r.op <;> rfl

theorem complete_ctlQ (s : State) (f : LongOp → Option ControlStatus) :
    (s.complete f).ctlQ = s.ctlQ ++ s.pcl.filterMap (completionOf f) := rfl

/-! ## Settling -/

theorem settle_window_retired {s : State} {ws : WindowId → Bool} {bs : BranchId → Bool} {w : WindowId} (hw : ws w = true)
    (hr : s.windows[w].state = .retiring ∧ s.windows[w].inFlight = 0) : (s.settle ws bs).windows[w] = Window.blank := by
  rw [settle_windows, if_pos (Bool.and_eq_true_iff.mpr ⟨hw, (window_drained_iff _).mpr hr⟩)]

theorem settle_window_kept {s : State} {ws : WindowId → Bool} {bs : BranchId → Bool} {w : WindowId}
    (h : ¬(ws w = true ∧ s.windows[w].state = .retiring ∧ s.windows[w].inFlight = 0)) :
    (s.settle ws bs).windows[w] = s.windows[w] := by
  rw [settle_windows, if_neg (by rwa [Bool.and_eq_true, window_drained_iff])]

/-- A port whose drain has ended (R91, R93). -/
theorem endDrain_eq (now len : Time) (br : Branch) : br.endDrain.restall now len =
    if br.drainLend = true then
      { br with state := .lent, drainLend := false, stallTimer := none, lendWanted := .granted, withdraw := false }
    else { br with state := .fenced, drainLend := false, stallTimer := none } := by
  rw [restall_endDrain]
  cases h : br.drainLend <;> simp [Branch.endDrain, Branch.enterFence, h]

theorem settle_branch_drained {s : State} {ws : WindowId → Bool} {bs : BranchId → Bool} {b : BranchId} (hb : bs b = true)
    (hd : s.drained b = true) : (s.settle ws bs).branches[b] =
    if s.branches[b].drainLend = true then
      { s.branches[b] with
        state := .lent, drainLend := false, stallTimer := none, lendWanted := .granted, withdraw := false }
    else { s.branches[b] with state := .fenced, drainLend := false, stallTimer := none } := by
  rw [settle_branches, if_pos (Bool.and_eq_true_iff.mpr ⟨hb, hd⟩), endDrain_eq]

theorem settle_branch_kept {s : State} {ws : WindowId → Bool} {bs : BranchId → Bool} {b : BranchId}
    (h : ¬(bs b = true ∧ s.drained b = true)) : (s.settle ws bs).branches[b] = s.branches[b] := by
  rw [settle_branches, if_neg (by rwa [Bool.and_eq_true])]

/-- The operations that settling ends, by any function that names them (R17, R93, R183). -/
theorem settle_completes {s : State} {ws : WindowId → Bool} {bs : BranchId → Bool} {f : LongOp → Option ControlStatus}
    (hretire : ∀ w : WindowId, f (.retire w) = if ws w && s.windows[w].drained then some .done else none)
    (hfence : ∀ b : BranchId, f (.fence b) = if bs b && s.drained b then some .done else none)
    (hreset : ∀ b : BranchId, f (.reset b) = none) :
    (s.settle ws bs).pcl = (s.complete f).pcl ∧ (s.settle ws bs).ctlQ = (s.complete f).ctlQ := by
  unfold State.settle State.finish
  refine complete_congr (fun op => ?_) rfl rfl
  cases op with
  | retire w => exact (hretire w).symm
  | fence b => exact (hfence b).symm
  | reset b => exact (hreset b).symm

/-- A part of which no block has changed is as it was. -/
theorem eq_of_sameBut_nil {s t : State} (h : SameBut [] s t) : t = s := by
  rw [sameBut_iff] at h
  cases s
  cases t
  simpa using h

/-- Completing nothing changes nothing. -/
theorem complete_none (s : State) {f : LongOp → Option ControlStatus} (hf : ∀ op, f op = none) : s.complete f = s := by
  obtain rfl : f = fun _ => none := funext hf
  simp [State.complete]

/-- Settling where no wait has ended changes nothing. -/
theorem settle_nothing {s : State} {ws : WindowId → Bool} {bs : BranchId → Bool}
    (hws : ∀ w : WindowId, (ws w && s.windows[w].drained) = false) (hbs : ∀ b : BranchId, (bs b && s.drained b) = false) :
    s.settle ws bs = s := by
  have hlists := settle_completes (s := s) (ws := ws) (bs := bs) (f := fun _ => none) (fun w => by rw [hws]; rfl)
    (fun b => by rw [hbs]; rfl) (fun _ => rfl)
  rw [complete_none s fun _ => rfl] at hlists
  have hwindows : (s.settle ws bs).windows = s.windows := by
    ext w hw
    have h := settle_windows s ws bs ⟨w, hw⟩
    rwa [hws, if_neg Bool.false_ne_true] at h
  have hbranches : (s.settle ws bs).branches = s.branches := by
    ext b hb
    have h := settle_branches s ws bs ⟨b, hb⟩
    rwa [hbs, if_neg Bool.false_ne_true] at h
  exact eq_of_sameBut_nil (by simp [sameBut_iff, hlists, hwindows, hbranches])

/-! ## The two commands -/

/-- The status of the one operation `op`. -/
def onlyDone (op x : LongOp) : Option ControlStatus := if x = op then some .done else none

/-- DRAIN_COMPLETE settles its branch alone (R93). -/
theorem drainComplete_completes {s : State} {b : BranchId} (hd : s.drained b = true) :
    (s.settle (fun _ => false) fun c => decide (c = b)).pcl = (s.complete (onlyDone (.fence b))).pcl ∧
    (s.settle (fun _ => false) fun c => decide (c = b)).ctlQ = (s.complete (onlyDone (.fence b))).ctlQ := by
  refine settle_completes (fun w => by simp [onlyDone]) (fun c => ?_) (fun c => by simp [onlyDone])
  by_cases hc : c = b
  · subst hc
    simp [onlyDone, hd]
  · simp [onlyDone, hc]

/-- RETIRE_COMPLETE settles its window alone (R17). -/
theorem retireComplete_completes {s : State} {w : WindowId} (hd : s.windows[w].drained = true) :
    (s.settle (fun v => decide (v = w)) fun _ => false).pcl = (s.complete (onlyDone (.retire w))).pcl ∧
    (s.settle (fun v => decide (v = w)) fun _ => false).ctlQ = (s.complete (onlyDone (.retire w))).ctlQ := by
  refine settle_completes (fun v => ?_) (fun c => by simp [onlyDone]) (fun c => by simp [onlyDone])
  by_cases hv : v = w
  · subst hv
    rw [hd]
    simp [onlyDone]
  · simp [onlyDone, hv]

/-- DRAIN_COMPLETE changes its branch and the completion's records alone, RETIRE_COMPLETE its window and those. -/
theorem drainComplete_frame (s : State) (b : BranchId) :
    SameBut [.branches, .pcl, .ctlQ] s (s.settle (fun _ => false) fun c => decide (c = b)) := by
  have hwindows : (s.settle (fun _ => false) fun c => decide (c = b)).windows = s.windows := by
    ext w hw
    exact settle_windows s (fun _ => false) _ ⟨w, hw⟩
  simp [sameBut_iff, hwindows]

theorem retireComplete_frame (s : State) (w : WindowId) :
    SameBut [.windows, .pcl, .ctlQ] s (s.settle (fun v => decide (v = w)) fun _ => false) := by
  have hbranches : (s.settle (fun v => decide (v = w)) fun _ => false).branches = s.branches := by
    ext b hb
    exact settle_branches s _ (fun _ => false) ⟨b, hb⟩
  simp [sameBut_iff, hbranches]

/-- Settles O49: each part is a lemma about the completions, the settling and the two commands, in the terms of the rules. -/
theorem completions_hold : Obligations.Completions := by
  unfold Obligations.Completions
  intro stays records only retires drains drained
  have hrecords (f : LongOp → Option ControlStatus) (s : State) : s.pcl.filterMap (completionOf f) = records f s := by
    refine List.filterMap_congr fun r _ => ?_
    unfold completionOf
    cases f r.op <;> rfl
  have hlists (f : LongOp → Option ControlStatus) (s : State) :
      (s.complete f).pcl = stays f s ∧ (s.complete f).ctlQ = s.ctlQ ++ records f s :=
    ⟨complete_pcl s f, by rw [complete_ctlQ, hrecords]⟩
  have hdrains (b : BranchId) (s : State) : s.drained b = true ↔ drains b s := drained_iff s b
  refine ⟨fun f s => ⟨(hlists f s).1, (hlists f s).2, complete_frame s f⟩, fun ws bs s => ⟨fun w => ?_, fun b => ?_,
    fun f hretire hfence hreset => ?_, settle_frame s ws bs⟩, fun b s => ⟨fun hd => ?_, fun hd => ?_⟩,
    fun w s => ⟨fun hr => ?_, fun hr => ?_⟩⟩
  · exact ⟨fun h => settle_window_retired h.1 h.2, settle_window_kept⟩
  · simp only [← hdrains]
    exact ⟨fun h => settle_branch_drained h.1 h.2, settle_branch_kept⟩
  · have hends := settle_completes (s := s) (ws := ws) (bs := bs) (f := f) (fun w => ?_) (fun b => ?_) hreset
    · rw [hends.1, hends.2]
      exact hlists f s
    · split
      case isTrue h =>
        obtain ⟨hw, hdrained⟩ := Bool.and_eq_true_iff.mp h
        exact (hretire w).1 ⟨hw, (window_drained_iff _).mp hdrained⟩
      case isFalse h =>
        rw [Bool.and_eq_true, window_drained_iff] at h
        exact (hretire w).2 h
    · split
      case isTrue h =>
        obtain ⟨hb, hdrained⟩ := Bool.and_eq_true_iff.mp h
        exact (hfence b).1 ⟨hb, (hdrains b s).mp hdrained⟩
      case isFalse h =>
        rw [Bool.and_eq_true, hdrains] at h
        exact (hfence b).2 h
  · rw [← hdrains] at hd
    have hends := drainComplete_completes hd
    refine ⟨_, rfl, settle_branch_drained (decide_eq_true rfl) hd, fun c hc => settle_branch_kept ?_, ?_, ?_,
      drainComplete_frame s b⟩
    · exact fun h => hc (of_decide_eq_true h.1)
    · rw [hends.1]
      exact (hlists _ s).1
    · rw [hends.2]
      exact (hlists _ s).2
  · rw [← hdrains] at hd
    refine congrArg Host.Outcome.next (settle_nothing (fun _ => rfl) fun c => ?_)
    by_cases hc : c = b
    · subst hc
      simpa using hd
    · simp [hc]
  · have hdrained := (window_drained_iff _).mpr hr
    have hends := retireComplete_completes hdrained
    refine ⟨_, rfl, settle_window_retired (decide_eq_true rfl) hr, fun v hv => settle_window_kept ?_, ?_, ?_,
      retireComplete_frame s w⟩
    · exact fun h => hv (of_decide_eq_true h.1)
    · rw [hends.1]
      exact (hlists _ s).1
    · rw [hends.2]
      exact (hlists _ s).2
  · refine congrArg Host.Outcome.next (settle_nothing (fun v => ?_) fun _ => rfl)
    by_cases hv : v = w
    · subst hv
      simpa [← window_drained_iff] using mt (window_drained_iff _).mp hr
    · simp [hv]

end Sys2Proof.Machine
end

section
/-! Power-on reset: the values it leaves (R1, R21, R47, R76, R104, R151, R188, R192) satisfy every invariant. -/

namespace Sys2Proof.Machine

open Sys2Proof.Safety

/-- Settles O3: the command leaves `State.powerOn` with the partner signals and the queue of commands as they stood. -/
theorem powerOnResetValues : Obligations.PowerOnResetValues := by
  unfold Obligations.PowerOnResetValues
  intro s
  refine ⟨State.powerOn s.trunk.partner (Vector.ofFn fun b => s.branches[b].partner) s.pending, rfl, rfl, rfl, rfl,
    fun w => powerOn_windows _ _ _ w, fun e => powerOn_entries _ _ _ e, fun b => ?_, fun n => powerOn_lines _ _ _ n, rfl, rfl, rfl,
    rfl, rfl, rfl, rfl, rfl, rfl, rfl⟩
  rw [powerOn_branches]
  simp [Branch.powerOn]

/-! ## The state after reset -/

theorem reset_windows (w : WindowId) : State.reset.windows[w] = Window.blank := powerOn_windows _ _ _ w

theorem reset_entries (e : EntryId) : State.reset.entries[e] = .free := powerOn_entries _ _ _ e

theorem reset_lines (n : LineId) : State.reset.lines[n] = Line.powerOn := powerOn_lines _ _ _ n

/-- No partner signal is present. -/
theorem reset_branches (b : BranchId) : State.reset.branches[b] = Branch.powerOn false := by
  unfold State.reset
  rw [powerOn_branches]
  simp

/-- No operation, no record, no delivery and no queued answer waits. -/
theorem reset_lists : State.reset.pcl = [] ∧ State.reset.faults = [] ∧ State.reset.deliveries = [] ∧ State.reset.intake = [] ∧
    State.reset.replyQ = [] ∧ State.reset.ctlQ = [] := ⟨rfl, rfl, rfl, rfl, rfl, rfl⟩

theorem reset_portsOk : PortsOk State.reset := by
  intro b
  rw [reset_branches]
  decide

theorem reset_linksOk : LinksOk State.reset := by
  refine ⟨fun b => ?_, by decide, by decide, by decide⟩
  rw [reset_branches]
  decide

theorem reset_noticesOk : NoticesOk State.reset := by
  refine ⟨by decide, by decide, fun n => ?_⟩
  rw [reset_lines]
  simp [Line.powerOn, reset_lists]

theorem reset_windowsOk : WindowsOk State.reset := by
  refine ⟨fun w => ?_, fun v w _ => ?_⟩
  · rw [reset_windows]
    exact ⟨fun _ => rfl, fun h => absurd rfl h⟩
  · rw [reset_windows, reset_windows]
    rfl

theorem reset_tagsOk : TagsOk State.reset := by
  intro e f _ h k he
  rw [reset_entries] at he
  exact nomatch he

theorem reset_repliesOk : RepliesOk State.reset := by
  refine ⟨fun e => ?_, fun r hr => nomatch hr⟩
  rw [reset_entries]
  rfl

theorem reset_countsOk : CountsOk State.reset :=
  (countsOk_iff _).mpr ⟨Nat.zero_le _, CountersOk.zero, fun _ h => nomatch h⟩

theorem reset_trunkOk : TrunkOk State.reset := by
  refine ⟨by decide, by decide, by decide, fun _ => ⟨rfl, rfl, rfl, rfl, rfl, rfl, rfl, fun e => ?_, fun b => ?_⟩⟩
  · rw [reset_entries]
    rfl
  · rw [reset_branches]
    rfl

theorem reset_pendingOk : PendingOk State.reset := by
  refine ⟨List.nodup_nil, fun w => ?_, fun b => ?_, fun b h => nomatch h⟩
  · rw [reset_windows]
    simp [reset_lists, Window.blank]
  · rw [reset_branches]
    simp [reset_lists, Branch.powerOn]

/-- Settles O5: each invariant by the values of the blocks it reads, the account of work as after every power-on reset. -/
theorem resetSatisfiesInvariants : Obligations.ResetSatisfiesInvariants :=
  ⟨reset_portsOk, reset_linksOk, reset_noticesOk, reset_windowsOk, reset_tagsOk, reset_repliesOk, reset_countsOk, reset_trunkOk,
    reset_pendingOk, powerOn_workOk _ _ _⟩

end Sys2Proof.Machine
end

section
/-! The upstream tags of the entries and the Replies that wait for them (R21, R24, R36, R146), entry by entry: an event places Replies
for the entries that it answers, a send takes the oldest Reply with its entry's tag, and routing takes a tag that no entry holds. -/

namespace Sys2Proof.Machine

open Sys2Proof.Safety

/-! ## The Replies of one entry -/

/-- The tags of the Replies of `q` that wait for entry `e`. -/
def tagsFor (e : EntryId) (q : List Reply) : List (BitVec 6) :=
  (q.filter fun r => decide (r.origin = .entry e)).map Reply.tag

/-- The tags of the Replies that an entry has waiting (R21): its own while it is ANSWERED, else none. -/
def answeredTags : Entry → List (BitVec 6)
  | .answered h _ => [h.tag]
  | .free | .queued _ _ | .issued _ _ | .linger _ _ => []

@[simp] theorem tagsFor_append (e : EntryId) (q new : List Reply) : tagsFor e (q ++ new) = tagsFor e q ++ tagsFor e new := by
  simp [tagsFor]

theorem tagsFor_cons_self {e : EntryId} {r : Reply} (h : r.origin = .entry e) (q : List Reply) :
    tagsFor e (r :: q) = r.tag :: tagsFor e q := by
  simp [tagsFor, h]

theorem tagsFor_cons_other {e : EntryId} {r : Reply} (h : r.origin ≠ .entry e) (q : List Reply) :
    tagsFor e (r :: q) = tagsFor e q := by
  simp [tagsFor, h]

theorem tagsFor_eq_nil_iff (e : EntryId) (q : List Reply) :
    tagsFor e q = [] ↔ q.countP (fun r => decide (r.origin = .entry e)) = 0 := by
  rw [tagsFor, List.map_eq_nil_iff, List.countP_eq_length_filter, List.length_eq_zero_iff]

theorem tagsFor_eq_singleton_iff (e : EntryId) (q : List Reply) (t : BitVec 6) :
    tagsFor e q = [t] ↔
      q.countP (fun r => decide (r.origin = .entry e)) = 1 ∧ ∀ r ∈ q, r.origin = .entry e → r.tag = t := by
  rw [tagsFor, ← List.replicate_one, List.eq_replicate_iff, List.length_map, List.countP_eq_length_filter]
  simp only [List.forall_mem_map, List.mem_filter, decide_eq_true_eq, and_imp]

/-- What `RepliesOk` says of one entry. -/
theorem replied_iff (e : EntryId) (x : Entry) (q : List Reply) : tagsFor e q = answeredTags x ↔
    q.countP (fun r => decide (r.origin = .entry e)) = (if isAnswered x then 1 else 0) ∧
      ∀ r ∈ q, r.origin = .entry e → ∀ h : Held, x.tagHeld = some h → r.tag = h.tag := by
  have hnone : q.countP (fun r => decide (r.origin = .entry e)) = 0 → ∀ r ∈ q, r.origin ≠ .entry e := by
    simp [List.countP_eq_zero]
  cases x with
  | answered h o => simpa [answeredTags, isAnswered, Entry.tagHeld] using tagsFor_eq_singleton_iff e q h.tag
  | free | queued h data | issued h d | linger h d =>
    rw [answeredTags, tagsFor_eq_nil_iff]
    exact ⟨fun h0 => ⟨h0, fun r hr ho => absurd ho (hnone h0 r hr)⟩, And.left⟩

theorem repliesOk_iff (s : State) : RepliesOk s ↔ ∀ e : EntryId, tagsFor e s.replyQ = answeredTags s.entries[e] := by
  simp only [replied_iff]
  exact ⟨fun h e => ⟨h.1 e, fun r hr => h.2 r hr e⟩, fun h => ⟨fun e => (h e).1, fun r hr e => (h e).2 r hr⟩⟩

/-! ## What keeps tags and Replies -/

/-- An event that leads from `s` to `t` keeps the upstream tags apart and one Reply for each ANSWERED entry. -/
def KeepsTags (s t : State) : Prop := (TagsOk s → TagsOk t) ∧ (RepliesOk s → RepliesOk t)

theorem KeepsTags.refl (s : State) : KeepsTags s s := ⟨id, id⟩

theorem KeepsTags.trans {s t u : State} (hst : KeepsTags s t) (htu : KeepsTags t u) : KeepsTags s u :=
  ⟨htu.1 ∘ hst.1, htu.2 ∘ hst.2⟩

theorem keepsTags_of_eq {s t : State} (he : t.entries = s.entries) (hq : t.replyQ = s.replyQ) : KeepsTags s t := by
  unfold KeepsTags TagsOk RepliesOk
  rw [he, hq]
  exact ⟨id, id⟩

theorem keepsTags_readsOnly (s : State) : ReadsOnly [.entries, .replyQ] (KeepsTags s) :=
  fun t u h htu => htu.trans (keepsTags_of_eq (h .entries (by simp)) (h .replyQ (by simp)))

/-- What leaves the entries and the Reply Queue keeps both. -/
theorem keepsTags_of_frame {ks : List Block} {s t : State} (h : SameBut ks s t)
    (hk : ∀ k ∈ [Block.entries, .replyQ], k ∉ ks) : KeepsTags s t :=
  (keepsTags_readsOnly s).keep h hk (.refl s)

/-- An entry goes from `x` to `y` while Replies under the tags `ts` are placed for it: it takes no new tag, and it has the new Replies
waiting besides those that it had. -/
def Entry.Answers (ts : List (BitVec 6)) (x y : Entry) : Prop :=
  (∀ h : Held, y.tagHeld = some h → x.tagHeld = some h) ∧ answeredTags y = answeredTags x ++ ts

theorem Entry.Answers.refl (x : Entry) : Entry.Answers [] x x := ⟨fun _ => id, (List.append_nil _).symm⟩

/-- A LINGER entry that becomes FREE held no tag and had no Reply (R33, R35). -/
theorem linger_free_answers (h : Held) (d : Time) : Entry.Answers [] (.linger h d) .free :=
  ⟨fun _ hk => (nomatch hk), rfl⟩

/-- Tags stay apart while no entry takes a new one (R24). -/
theorem tagsOk_of_no_new {s t : State} (hs : TagsOk s)
    (h : ∀ (e : EntryId) (k : Held), t.entries[e].tagHeld = some k → s.entries[e].tagHeld = some k) : TagsOk t :=
  fun e f hef k l hk hl => hs e f hef k l (h e k hk) (h f l hl)

/-- An event that places a Reply for each entry that it answers, and for no other, keeps both. -/
theorem keepsTags_of_answers {s t : State} {new : List Reply} (hq : t.replyQ = s.replyQ ++ new)
    (he : ∀ e : EntryId, Entry.Answers (tagsFor e new) s.entries[e] t.entries[e]) : KeepsTags s t := by
  refine ⟨fun hs => tagsOk_of_no_new hs fun e => (he e).1, fun hs => ?_⟩
  rw [repliesOk_iff] at hs ⊢
  intro e
  rw [hq, tagsFor_append, hs e, (he e).2]

/-- An event after which no tag is held and no Reply waits keeps both. -/
theorem keepsTags_of_nothing {s t : State} (hq : t.replyQ = []) (he : ∀ e : EntryId, t.entries[e].tagHeld = none) :
    KeepsTags s t := by
  refine ⟨fun _ e f _ k l hk => ?_, fun _ => (repliesOk_iff t).mpr fun e => ?_⟩
  · exact nomatch (he e).symm.trans hk
  · have hnone := he e
    rw [hq]
    cases hx : t.entries[e] with
    | answered h o => exact nomatch (congrArg Entry.tagHeld hx).symm.trans hnone
    | _ => rfl

/-! ## Answers -/

theorem setEntry_keepsTags {s : State} {e : EntryId} {x : Entry} (h : Entry.Answers [] s.entries[e] x) :
    KeepsTags s (s.setEntry e x) :=
  keepsTags_of_answers (new := []) (by simp) (forall_setEntry (Entry.Answers []) .refl h)

/-- An ISSUED entry that is answered has its Reply placed (R28, R34). -/
theorem answerEntry_keepsTags {s : State} {e : EntryId} {h : Held} {d : Time} (o : Bool) (st : ReplyStatus) (ws : List Word)
    (he : s.entries[e] = .issued h d) : KeepsTags s (s.answerEntry e h o st ws) := by
  refine keepsTags_of_answers (State.answerEntry_replyQ s e h o st ws) fun f => ?_
  rw [State.answerEntry_entries, ← State.setEntry_entries]
  by_cases hf : f = e
  · rw [hf, setEntry_self, he, tagsFor_cons_self rfl]
    exact ⟨fun _ => id, rfl⟩
  · rw [setEntry_other s e _ f hf, tagsFor_cons_other (by simpa using Ne.symm hf)]
    exact .refl _

/-! ## Replies owed -/

/-- The tags of the Replies owed to an entry that is QUEUED or ISSUED on a branch of `p` (R37, R39). -/
def owedTags (p : BranchId → Bool) (x : Entry) : List (BitVec 6) :=
  match x.counted with
  | some h => if p h.branch then [h.tag] else []
  | none => []

/-- The records that a table's search places for one index are those that it places at that index. -/
theorem filter_filterMap_finRange {n : Nat} {α : Type} (i : Fin n) (g : Fin n → Option α) (p : α → Bool)
    (h : ∀ (j : Fin n) (a : α), g j = some a → p a = decide (j = i)) :
    ((List.finRange n).filterMap g).filter p = (g i).toList := by
  have hg (j : Fin n) : (g j).filter p = if decide (j = i) = true then g j else none := by
    cases hj : g j with
    | none => simp
    | some a => simp [Option.filter, h j a hj]
  rw [List.filter_filterMap, List.filterMap_congr fun j _ => hg j, ← List.filterMap_filter, List.filter_eq, List.count_finRange]
  cases hi : g i <;> simp [hi]

theorem tagsFor_owed (s : State) (p : BranchId → Bool) (st : ReplyStatus) (e : EntryId) :
    tagsFor e (s.owed p st) = owedTags p s.entries[e] := by
  unfold tagsFor State.owed
  rw [filter_filterMap_finRange e]
  · unfold owedTags
    cases s.entries[e].counted with
    | none => rfl
    | some h => cases hp : p h.branch <;> simp [hp]
  · intro f r hr
    split at hr
    · split at hr
      · cases hr
        simp
      · cases hr
    · cases hr

/-- An entry at the loss of a branch, or at CLEAR-PATH, is answered when it was QUEUED or ISSUED there (R37, R39). -/
theorem lose_answers (b : BranchId) (x : Entry) : Entry.Answers (owedTags (fun c => decide (c = b)) x) x (x.lose b) := by
  cases x with
  | free => exact .refl _
  | queued h data | issued h d | answered h o | linger h d =>
    by_cases hb : h.branch = b <;>
      simp [Entry.Answers, Entry.lose, owedTags, Entry.counted, Entry.tagHeld, answeredTags, hb]

theorem clear_answers (x : Entry) : Entry.Answers (owedTags (fun _ => true) x) x x.clear := by
  cases x <;> exact ⟨fun _ => id, rfl⟩

theorem lose_keepsTags (s : State) (b : BranchId) (st : BranchState) : KeepsTags s (s.lose b st) := by
  refine keepsTags_of_answers (State.lose_replyQ s b st) fun e => ?_
  rw [tagsFor_owed, lose_entries]
  exact lose_answers b _

theorem lossBy_keepsTags (s : State) (b : BranchId) (cause : LossCause) : KeepsTags s (s.lossBy b cause) :=
  (lose_keepsTags s b s.branches[b].outOfService).trans (keepsTags_of_eq (by simp [State.lossBy]) (by simp [State.lossBy]))

/-- A port is written, as by the sending of the reset sequence, and the branch is lost (R81). -/
theorem setBranch_lossBy_keepsTags (s : State) (b : BranchId) (br : Branch) (cause : LossCause) :
    KeepsTags s (State.lossBy b cause (s.setBranch b br)) :=
  (keepsTags_of_frame (setBranch_frame s b br) (by decide)).trans (lossBy_keepsTags _ b cause)

theorem branchCheckFails_keepsTags (b : BranchId) (s : State) : KeepsTags s (s.branchCheckFails b) := by
  unfold State.branchCheckFails
  split
  · exact setBranch_lossBy_keepsTags s b _ .check
  · exact .refl s

theorem resetWork_keepsTags (seq : BitVec 8) (b : BranchId) (s : State) : KeepsTags s (s.resetWork seq b) := by
  unfold State.resetWork
  split
  · exact (lose_keepsTags (s.complete (abortFence b)) b .resetting).trans (keepsTags_of_eq (by simp) (by simp))
  · exact keepsTags_of_frame (complete_frame s _) (by decide)

theorem resetBranch_keepsTags (c : Control) (b : BranchId) (s : State) : KeepsTags s (s.resetBranch c b) := by
  unfold State.resetBranch
  split
  · exact keepsTags_of_frame (answerNow_frame s c _ _) (by decide)
  · split
    · exact keepsTags_of_frame (answerNow_frame s c _ _) (by decide)
    · exact (resetWork_keepsTags c.seq b s).trans (keepsTags_of_eq rfl rfl)

theorem clearPath_keepsTags (s : State) : KeepsTags s s.clearPath := by
  refine keepsTags_of_answers (State.clearPath_replyQ s) fun e => ?_
  have hclear : s.clearPath.entries[e] = s.entries[e].clear := by simp [State.clearPath]
  rw [tagsFor_owed, hclear]
  exact clear_answers _

/-! ## Trunk reset -/

theorem trunkReset_keepsTags (sends : Bool) (s : State) : KeepsTags s (s.trunkReset sends) := by
  refine keepsTags_of_nothing (by simp [State.trunkReset]) fun e => ?_
  rw [trunkReset_entries]
  unfold Entry.trunkReset
  split <;> rfl

theorem trunkCheckFails_keepsTags (s : State) : KeepsTags s s.trunkCheckFails := by
  unfold State.trunkCheckFails
  split
  · exact trunkReset_keepsTags true s
  · exact .refl s

/-! ## Replies received -/

theorem matchedReply_keepsTags {s : State} {e : EntryId} {h : Held} {d : Time} (b : BranchId) (st : ReplyStatus)
    (data : List Word) (he : s.entries[e] = .issued h d) : KeepsTags s (s.matchedReply b e h st data) := by
  unfold State.matchedReply
  split
  · split
    · exact answerEntry_keepsTags false .ok data he
    · exact (answerEntry_keepsTags false .targetError [] he).trans (keepsTags_of_frame (recordFault_frame _ _) (by decide))
  · exact answerEntry_keepsTags false st [] he

/-- A late reply clears the flag of an ANSWERED entry or frees a LINGER entry: no Reply is placed and none is lost (R32, R33). -/
theorem lateReply_keepsTags {s : State} {e : EntryId} {x : Entry} (h : Entry.Answers [] s.entries[e] x) :
    KeepsTags s (s.setEntry e x).countLate :=
  (setEntry_keepsTags h).trans (keepsTags_of_eq (by simp) (by simp))

theorem replyTo_keepsTags (b : BranchId) (e : EntryId) (st : ReplyStatus) (data : List Word) (s : State) :
    KeepsTags s (s.replyTo b e st data) := by
  have hstray : KeepsTags s (s.strayReply b (BitVec.ofNat 6 e.val)) := keepsTags_of_frame (strayReply_frame b _ s) (by decide)
  unfold State.replyTo
  dsimp only
  split
  case h_1 he =>
    split
    · exact matchedReply_keepsTags b st data he
    · exact hstray
  case h_2 he =>
    split
    · exact lateReply_keepsTags (by rw [he]; exact ⟨fun _ => id, rfl⟩)
    · exact hstray
  case h_3 he =>
    split
    · exact lateReply_keepsTags (by rw [he]; exact linger_free_answers _ _)
    · exact hstray
  all_goals exact hstray

theorem takeReply_keepsTags (b : BranchId) (t : BitVec 6) (st : ReplyStatus) (data : List Word) (s : State) :
    KeepsTags s (s.takeReply b t st data) := by
  unfold State.takeReply
  split
  · split
    · exact replyTo_keepsTags b _ st data s
    · exact keepsTags_of_frame (strayReply_frame b t s) (by decide)
  · exact .refl s

/-! ## Routing -/

/-- A FREE entry takes a tag that no entry holds (R22, R24). -/
theorem queueEntry_keepsTags {s : State} {e : EntryId} {h : Held} (data : List Word) (hfree : s.entries[e] = .free)
    (hnew : s.tagInUse h.tag = false) : KeepsTags s (s.setEntry e (.queued h data)) := by
  have hunused (f : EntryId) (k : Held) (hk : s.entries[f].tagHeld = some k) : k.tag ≠ h.tag := fun heq => by
    rw [(tagInUse_iff s h.tag).mpr ⟨f, k, hk, heq⟩] at hnew
    cases hnew
  refine ⟨fun hs f g hfg k l hk hl => ?_, fun hs => ?_⟩
  · by_cases hf : f = e
    · rw [hf, setEntry_self] at hk
      rw [setEntry_other s e _ g (hf ▸ Ne.symm hfg)] at hl
      cases hk
      exact (hunused g l hl).symm
    · rw [setEntry_other s e _ f hf] at hk
      by_cases hg : g = e
      · rw [hg, setEntry_self] at hl
        cases hl
        exact hunused f k hk
      · rw [setEntry_other s e _ g hg] at hl
        exact hs f g hfg k l hk hl
  · rw [repliesOk_iff] at hs ⊢
    intro f
    rw [forall_setEntry (fun x y => answeredTags y = answeredTags x) (fun _ => rfl) (by rw [hfree]; rfl) f]
    exact hs f

/-- A request that takes an entry is no POSTED-WRITE. -/
theorem not_isPosted_of_nonPosted {r : Request} {o : NpOp} (h : (Op.ofCode r.op).bind Op.nonPosted = some o) :
    r.isPosted = false := by
  refine decide_eq_false fun hp => ?_
  rw [hp] at h
  cases h

theorem routeVia_keepsTags {s : State} {r : Request} (w : WindowId) (hnew : r.isPosted = false → s.tagInUse r.tag = false) :
    KeepsTags s (s.routeVia r w) := by
  unfold State.routeVia
  dsimp only
  split
  case h_1 o e ho he =>
    refine (queueEntry_keepsTags (h := r.held o w s.windows[w]) r.data (freeEntry_free he) ?_).trans (keepsTags_of_eq rfl rfl)
    exact hnew (not_isPosted_of_nonPosted ho)
  case h_2 => exact .refl s
  case h_3 => exact keepsTags_of_eq rfl rfl

/-- A refusal's Reply waits for no entry (R138). -/
theorem refuse_keepsTags (r : Request) (st : ReplyStatus) (b : Option BranchId) (s : State) : KeepsTags s (s.refuse r st b) := by
  unfold State.refuse
  split
  · exact keepsTags_of_eq (by simp) (by simp)
  · refine keepsTags_of_answers (State.placeReply_replyQ s _) fun e => ?_
    rw [tagsFor_cons_other (by simp)]
    exact .refl _

theorem routeExamination_keepsTags (s : State) : Leaves (KeepsTags s) (execRouteExamination s) := by
  unfold execRouteExamination
  split
  case h_2 => exact leaves_fault
  case h_1 r rest _ =>
    have htaken : KeepsTags s { s with intake := rest } := keepsTags_of_eq rfl rfl
    refine leaves_next ?_
    split
    case h_1 => exact htaken.trans (refuse_keepsTags r _ _ _)
    case h_2 => exact htaken.trans (keepsTags_of_frame (discardDuplicate_frame r _) (by decide))
    case h_3 => exact .refl s
    case h_4 w hroute => exact htaken.trans (routeVia_keepsTags w (examine_route hroute).2.1)

/-! ## Issue and sends -/

theorem issueNonPosted_keepsTags (b : BranchId) (s : State) : Leaves (KeepsTags s) (execIssueNonPosted b s) := by
  unfold execIssueNonPosted
  split
  case h_2 => exact leaves_fault
  case h_1 e _ =>
    split
    case h_1 h data he =>
      refine leaves_next ((setEntry_keepsTags ?_).trans (keepsTags_of_frame (setBranch_frame _ b _) (by decide)))
      rw [he]
      exact ⟨fun _ => id, rfl⟩
    all_goals exact leaves_fault

/-- An entry whose Reply is sent has none waiting, and takes no new tag (R36). -/
theorem entry_sent_answeredTags (now : Time) (k : Timing) (x : Entry) : answeredTags (x.sent now k) = [] := by
  unfold Entry.sent
  split <;> rfl

theorem entry_sent_tagHeld {now : Time} {k : Timing} {x : Entry} {h : Held} (hx : (x.sent now k).tagHeld = some h) :
    x.tagHeld = some h := by
  cases x with
  | answered k o => cases o <;> cases hx
  | free | queued k data | issued k d | linger k d => exact hx

/-- An entry has one Reply waiting at most (R21). -/
theorem answeredTags_tail {x : Entry} {k : BitVec 6} {ks : List (BitVec 6)} (h : k :: ks = answeredTags x) : ks = [] := by
  cases x <;> simp_all [answeredTags]

/-- The oldest Reply leaves the queue, and its entry, which had no other, waits for none (R36, R152). -/
theorem replySent_keepsTags {s u : State} {r : Reply} {rest : List Reply} (hq : s.replyQ = r :: rest)
    (he : u.entries = s.entries) (hu : u.replyQ = rest) : KeepsTags s (u.replySent r.origin) := by
  cases ho : r.origin with
  | refusal =>
    have hentries : (u.replySent .refusal).entries = s.entries := he
    have hreplies : (u.replySent .refusal).replyQ = rest := hu
    refine ⟨fun hs => tagsOk_of_no_new hs fun e k hk => hentries ▸ hk, fun hs => ?_⟩
    rw [repliesOk_iff] at hs ⊢
    intro e
    rw [hentries, hreplies, ← hs e, hq, tagsFor_cons_other (by simp [ho])]
  | entry e =>
    have hentries (f : EntryId) : (u.replySent (.entry e)).entries[f] =
        (s.setEntry e (s.entries[e].sent u.timeBase u.timing)).entries[f] := by
      simp [State.replySent, he]
    have hreplies : (u.replySent (.entry e)).replyQ = rest := hu
    refine ⟨fun hs => tagsOk_of_no_new hs fun f k => ?_, fun hs => ?_⟩
    · rw [hentries]
      exact forall_setEntry (fun x y => y.tagHeld = some k → x.tagHeld = some k) (fun _ => id) entry_sent_tagHeld f
    · rw [repliesOk_iff] at hs ⊢
      intro f
      have hf := hs f
      rw [hentries, hreplies]
      rw [hq] at hf
      by_cases hfe : f = e
      · subst hfe
        rw [tagsFor_cons_self ho] at hf
        rw [setEntry_self, entry_sent_answeredTags, answeredTags_tail hf]
      · rw [tagsFor_cons_other (by simpa [ho] using Ne.symm hfe)] at hf
        rw [setEntry_other s e _ f hfe, hf]

theorem sendReply_keepsTags (s : State) : Leaves (KeepsTags s) (execSendReply s) := by
  unfold execSendReply
  split
  case h_1 r rest _ hq => exact leaves_next (replySent_keepsTags hq rfl rfl)
  case h_2 => exact leaves_fault

/-! ## Deadlines -/

theorem requestDeadlineExpiry_keepsTags (e : EntryId) (s : State) : Leaves (KeepsTags s) (execRequestDeadlineExpiry e s) := by
  unfold execRequestDeadlineExpiry
  split
  case h_1 he => exact leaves_guard fun _ => answerEntry_keepsTags true .timeout [] he
  all_goals exact leaves_fault

theorem lingerExpiry_keepsTags (e : EntryId) (s : State) : Leaves (KeepsTags s) (execLingerExpiry e s) := by
  unfold execLingerExpiry
  split
  case h_1 he =>
    refine leaves_guard fun _ => setEntry_keepsTags ?_
    rw [he]
    exact linger_free_answers _ _
  all_goals exact leaves_fault

/-! ## Every command -/

/-- A control command whose run keeps tags and Replies keeps them. -/
theorem command_keepsTags {α : Type} {isRow : Nat → Bool} {operands : Control → Option α} {run : Control → α → State → State}
    {s : State} (hrun : ∀ (c : Control) (a : α) (u : State), KeepsTags u (run c a u)) :
    Leaves (KeepsTags s) (takeControl isRow (fun c => withOperands (operands c) c (run c)) s) :=
  leaves_command (keepsTags_readsOnly s) (by decide) (by decide) (.refl s) fun c a u _ hu => hu.trans (hrun c a u)

/-- A frame on the trunk whose owner writes neither the entries nor the Reply Queue. -/
theorem trunkFrame_keepsTags {isRow : Bool} {f : Frame} {ks : List Block} {good : State → State} {s : State}
    (h : SameBut ks s (good s)) (hk : ∀ k ∈ [Block.entries, .replyQ], k ∉ ks) :
    Leaves (KeepsTags s) (takeFrame isRow f State.trunkCheckFails good s) :=
  leaves_takeFrame (keepsTags_of_frame h hk) (trunkCheckFails_keepsTags s)

/-- A frame on a branch whose owner writes neither the entries nor the Reply Queue. -/
theorem branchFrame_keepsTags {isRow : Bool} {f : Frame} {ks : List Block} {b : BranchId} {good : State → State} {s : State}
    (h : SameBut ks s (good s)) (hk : ∀ k ∈ [Block.entries, .replyQ], k ∉ ks) :
    Leaves (KeepsTags s) (takeFrame isRow f (State.branchCheckFails b) good s) :=
  leaves_takeFrame (keepsTags_of_frame h hk) (branchCheckFails_keepsTags b s)

/-- Every command keeps the upstream tags apart and one Reply for each ANSWERED entry. -/
theorem exec_keepsTags (c : Instr) (s : State) : Leaves (KeepsTags s) (exec c s) := by
  by_cases hw : ∀ k ∈ [Block.entries, .replyQ], k ∉ writes c
  · exact exec_keeps_of_frame (keepsTags_readsOnly s) (.refl s) hw
  cases c <;> simp only [exec]
  case powerOnReset =>
    refine leaves_next (keepsTags_of_nothing rfl fun e => ?_)
    rw [powerOn_entries]
    rfl
  case trunkCheckFailure => exact leaves_next (trunkCheckFails_keepsTags s)
  case trunkResetSequenceReceived =>
    refine leaves_next ?_
    split
    · exact trunkReset_keepsTags false s
    · exact .refl s
  case trunkPartnerLost =>
    refine leaves_next ?_
    split
    · exact (keepsTags_of_eq rfl rfl).trans (trunkReset_keepsTags false { s with trunk := { s.trunk with partner := false } })
    all_goals exact keepsTags_of_eq rfl rfl
  case intakeArrival f => exact trunkFrame_keepsTags (arrive_frame _ s) (by decide)
  case noticeAck f => exact trunkFrame_keepsTags (takeAck_frame _ s) (by decide)
  case trunkCreditReceived f => exact trunkFrame_keepsTags (good := id) (sameBut_refl [] s) (by decide)
  case trunkUnexpectedFrame f => exact trunkFrame_keepsTags (trunkUnexpected_frame _ s) (by decide)
  case sendReply => exact sendReply_keepsTags s
  case routeExamination => exact routeExamination_keepsTags s
  case resetBranch => exact command_keepsTags resetBranch_keepsTags
  case clearPath =>
    exact command_keepsTags fun c _ u =>
      (clearPath_keepsTags u).trans (keepsTags_of_frame (answerNow_frame _ c _ _) (by decide))
  case branchPartnerLost b =>
    refine leaves_next ?_
    split
    · exact setBranch_lossBy_keepsTags s b _ .signalLost
    · exact keepsTags_of_frame (setBranch_frame s b _) (by decide)
  case branchCheckFailure b => exact leaves_next (branchCheckFails_keepsTags b s)
  case branchResetSequenceReceived b =>
    refine leaves_next ?_
    split
    · exact lossBy_keepsTags s b .partnerReset
    · exact .refl s
  case stallTimerExpiry b => exact leaves_guard fun _ => setBranch_lossBy_keepsTags s b _ .stall
  case branchReply b f => exact leaves_takeFrame (takeReply_keepsTags b _ _ _ s) (branchCheckFails_keepsTags b s)
  case branchCredit b f => exact branchFrame_keepsTags (takeCredit_frame b _ s) (by decide)
  case branchNotice b f => exact branchFrame_keepsTags (takeNotice_frame b _ s) (by decide)
  case withdraw b f => exact branchFrame_keepsTags (takeWithdraw_frame b s) (by decide)
  case unitReturn b f => exact branchFrame_keepsTags (takeReturn_frame b s) (by decide)
  case branchUnexpectedFrame b f => exact branchFrame_keepsTags (branchUnexpected_frame b _ s) (by decide)
  case issueNonPosted b => exact issueNonPosted_keepsTags b s
  case requestDeadlineExpiry e => exact requestDeadlineExpiry_keepsTags e s
  case lingerExpiry e => exact lingerExpiry_keepsTags e s
  all_goals simp [writes, controlAnswerBlocks, attentionBlocks, completionBlocks] at hw

/-- Settles O55: an event answers an entry with one Reply under its tag, a send takes that Reply from the entry, and routing takes a tag
that no entry holds. -/
theorem invariantTagsAndReplies : Obligations.InvariantTagsAndReplies :=
  fun s => leaves_step (P := KeepsTags s) (keepsTags_of_frame (tick_frame s) (by decide)) fun c rest t ht =>
    (keepsTags_of_eq rfl rfl).trans (exec_keepsTags c { s with pending := rest } t ht)

end Sys2Proof.Machine
end

section
/-! A duplicate tag (R24): the request is discarded, recorded and its credit returned. -/

namespace Sys2Proof.Machine

open Sys2Proof.Safety

theorem execRouteExamination_duplicate {s : State} {r : Request} {rest : List IntakeFrame}
    (h : s.intake = .request r :: rest) (hv : s.examine r = .duplicate) :
    exec .routeExamination s = .next (State.discardDuplicate r { s with intake := rest }) := by
  show execRouteExamination s = _
  unfold execRouteExamination
  simp only [h, hv]

/-- Settles O20: the second step of an examination finds the duplicate, and the discard is the credit and the record. -/
theorem duplicateDiscarded : Obligations.DuplicateDiscarded := by
  intro r rest s h hgood hdup
  refine ⟨_, execRouteExamination_duplicate h (examine_duplicate hgood hdup), ?_, ?_, ?_, ?_⟩
  · simp [State.discardDuplicate]
  · simp [State.discardDuplicate]
  · exact attention_recordFault _ ⟨rfl, rfl, rfl⟩
  · have htaken : SameBut [.intake] s { s with intake := rest } := by simp [sameBut_iff]
    exact sameBut_trans htaken (discardDuplicate_frame r _) (by decide) (by decide)

end Sys2Proof.Machine
end

section
/-! Replies from a branch (R27 to R33): matched, late or stray by the entry that the tag names, and what each leaves. -/

namespace Sys2Proof.Machine

open Sys2Proof.Safety

/-! ## The answer of an entry -/

/-- The Reply is placed while the windows and the branches settle, which do not read the Reply Queue. -/
theorem answerEntry_eq (s : State) (e : EntryId) (h : Held) (o : Bool) (st : ReplyStatus) (ws : List Word) :
    s.answerEntry e h o st ws =
      State.placeReply ⟨h.tag, st, ws, .entry e⟩
        (State.settle (fun w => decide (w = h.window)) (fun b => decide (b = h.branch)) (answeredState e h o s)) := by
  have huncount : State.uncountOne h.window (State.placeReply ⟨h.tag, st, ws, .entry e⟩ (s.setEntry e (.answered h o))) =
      State.placeReply ⟨h.tag, st, ws, .entry e⟩ (answeredState e h o s) := by
    have hwindows := uncountOne_windows (State.placeReply ⟨h.tag, st, ws, .entry e⟩ (s.setEntry e (.answered h o))) h.window
    exact congrArg (fun v => { State.placeReply ⟨h.tag, st, ws, .entry e⟩ (s.setEntry e (.answered h o)) with windows := v })
      hwindows
  unfold State.answerEntry
  rw [huncount]
  rfl

theorem answerEntry_leaves (s : State) (e : EntryId) (h : Held) (o : Bool) (st : ReplyStatus) (ws : List Word) :
    AnswerLeaves e h o st ws s (s.answerEntry e h o st ws) := by
  refine ⟨State.answerEntry_entries s e h o st ws, State.answerEntry_replyQ s e h o st ws, ?_⟩
  rw [answerEntry_eq]
  exact ⟨rfl, rfl, rfl, rfl⟩

/-- An answer in the terms of the claims: what it leaves, and that it writes nothing else (R28, R34). -/
theorem answerEntry_next (s : State) (e : EntryId) (h : Held) (o : Bool) (st : ReplyStatus) (ws : List Word) :
    ∃ t, (.next (s.answerEntry e h o st ws) : Result) = .next t ∧ AnswerLeaves e h o st ws s t ∧
      SameBut [.entries, .windows, .branches, .pcl, .ctlQ, .replyQ] s t :=
  ⟨_, rfl, answerEntry_leaves s e h o st ws,
    sameBut_trans (answerEntry_frame s e h o st ws) (sameBut_refl [] _) (by decide) (by decide)⟩

/-- A record made afterwards leaves all that an answer leaves. -/
theorem answerLeaves_recordFault {e : EntryId} {h : Held} {o : Bool} {st : ReplyStatus} {ws : List Word} {s t : State}
    (x : FaultRecord) (ht : AnswerLeaves e h o st ws s t) : AnswerLeaves e h o st ws s (t.recordFault x) := by
  obtain ⟨hentries, hreplies, hwindows, hbranches, hpcl, hctl⟩ := ht
  exact ⟨by simpa using hentries, by simpa using hreplies, by simpa using hwindows, by simpa using hbranches, by simpa using hpcl,
    by simpa using hctl⟩

/-! ## The entry that a tag names -/

section
variable {b : BranchId} {f : Frame} {s : State}

/-- A REPLY that a branch in service takes is one against the entry of its tag (R27). -/
theorem branchReply_entry {e : EntryId} (hrow : f.isOneOf [2] = true) (hsize : f.sizeOk = true)
    (hin : s.branches[b].state.inService = true) (htag : f.replyTag.toNat = e.val) :
    exec (.branchReply b f) s = .next (s.replyTo b e (.ofCode f.replyStatus) f.replyData) := by
  show execBranchReply b f s = _
  unfold execBranchReply
  rw [takeFrame_good hrow hsize, State.takeReply, if_pos hin, dif_pos (htag ▸ e.isLt)]
  simp only [htag]

/-- A tag of 48 or more names no entry (R31, R169). -/
theorem branchReply_no_entry (hrow : f.isOneOf [2] = true) (hsize : f.sizeOk = true)
    (hin : s.branches[b].state.inService = true) (htag : ¬f.replyTag.toNat < 48) :
    exec (.branchReply b f) s = .next (s.strayReply b f.replyTag) := by
  show execBranchReply b f s = _
  unfold execBranchReply
  rw [takeFrame_good hrow hsize, State.takeReply, if_pos hin, dif_neg htag]

end

section
variable {b : BranchId} {e : EntryId} {h : Held} {s : State} (st : ReplyStatus) (data : List Word)

theorem replyTo_issued {d : Time} (he : s.entries[e] = .issued h d) (hb : h.branch = b) :
    s.replyTo b e st data = s.matchedReply b e h st data := by
  simp only [State.replyTo, he, if_pos hb]

theorem replyTo_answered (he : s.entries[e] = .answered h true) (hb : h.branch = b) :
    s.replyTo b e st data = (s.setEntry e (.answered h false)).countLate := by
  simp only [State.replyTo, he, if_pos hb]

theorem replyTo_linger {d : Time} (he : s.entries[e] = .linger h d) (hb : h.branch = b) :
    s.replyTo b e st data = (s.setEntry e .free).countLate := by
  simp only [State.replyTo, he, if_pos hb]

end

/-! ## Matched replies -/

theorem replyStatus_ofCode_eq {c : BitVec 4} {st : ReplyStatus} (h : c.toNat = st.code) : ReplyStatus.ofCode c = st := by
  unfold ReplyStatus.ofCode
  rw [h]
  cases st <;> rfl

/-- A code that names no status is taken as TARGET-ERROR (R29). -/
theorem replyStatus_ofCode_unnamed {c : BitVec 4} (h : 11 ≤ c.toNat) : ReplyStatus.ofCode c = .targetError := by
  revert c
  decide

section
variable (b : BranchId) (e : EntryId) (h : Held) (data : List Word) (s : State)

theorem matchedReply_ok (hlen : data.length = h.replyWords) :
    s.matchedReply b e h .ok data = s.answerEntry e h false .ok data := by
  rw [State.matchedReply, if_pos rfl, if_pos hlen]

/-- An OK reply with the wrong number of data words is answered TARGET-ERROR and recorded (R30). -/
theorem matchedReply_mismatch (hlen : data.length ≠ h.replyWords) :
    s.matchedReply b e h .ok data = State.recordFault
      { kind := .lengthMismatch, timestamp := s.timeBase, branch := some b, upTag := some h.tag,
        downTag := some (BitVec.ofNat 6 e.val), address := some h.address, count := some data.length }
      (s.answerEntry e h false .targetError []) := by
  rw [State.matchedReply, if_pos rfl, if_neg hlen]

theorem matchedReply_other {st : ReplyStatus} (hst : st ≠ .ok) :
    s.matchedReply b e h st data = s.answerEntry e h false st [] := by
  rw [State.matchedReply, if_neg hst]

end

/-- Settles O39: the reply is taken against its entry, and the status, with the number of words of an OK, decides the answer. -/
theorem matchedReply : Obligations.MatchedReply := by
  intro b f e h d s hrow hsize htag hin he hb words
  have hwords : h.replyWords = words := by
    unfold Held.replyWords
    cases hop : h.op <;> simp only [words, hop]
  rw [branchReply_entry hrow hsize hin htag, replyTo_issued _ _ he hb]
  refine ⟨fun hok hlen => ?_, fun hok hlen => ?_, fun st hst hcode => ?_, fun hcode => ?_⟩
  · have hstatus : ReplyStatus.ofCode f.replyStatus = .ok := by rw [hok]; rfl
    rw [hstatus, matchedReply_ok b e h _ s (hlen.trans hwords.symm)]
    exact answerEntry_next s e h false .ok f.replyData
  · have hstatus : ReplyStatus.ofCode f.replyStatus = .ok := by rw [hok]; rfl
    rw [hstatus, matchedReply_mismatch b e h _ s (hwords ▸ hlen)]
    refine ⟨_, rfl, answerLeaves_recordFault _ (answerEntry_leaves s e h false .targetError []), ?_, ?_⟩
    · exact attention_recordFault _ ⟨by simp, by simp, by simp⟩
    · exact sameBut_trans (answerEntry_frame s e h false .targetError []) (recordFault_frame _ _) (by decide) (by decide)
  · rw [replyStatus_ofCode_eq hcode, matchedReply_other b e h _ s hst]
    exact answerEntry_next s e h false st []
  · rw [replyStatus_ofCode_unnamed hcode, matchedReply_other b e h _ s (by decide)]
    exact answerEntry_next s e h false .targetError []

/-! ## Late replies -/

/-- Below saturation a late reply is counted and no line is raised (R192). -/
theorem countLate_below {s : State} (h : s.counters.lateReplies < 65534) :
    s.countLate.counters = { s.counters with lateReplies := s.counters.lateReplies + 1 } ∧ s.countLate.lines = s.lines := by
  have hbump : bump s.counters.lateReplies = s.counters.lateReplies + 1 := if_pos (lt_trans h (by decide))
  have hnot : saturates s.counters.lateReplies = false := by
    rw [saturates_eq]
    exact decide_eq_false h.ne
  unfold State.countLate State.signalIf
  rw [hnot, hbump]
  exact ⟨rfl, rfl⟩

/-- What a late reply leaves: its entry written and the reply counted (R32, R33). -/
theorem lateReply_leaves (s : State) (e : EntryId) (x : Entry) :
    let t := (s.setEntry e x).countLate
    t.entries[e] = x ∧ OtherEntries e s t ∧ AttentionOf s.countLate t ∧ SameBut [.entries, .lines, .counters] s t ∧
      (s.counters.lateReplies < 65534 →
        t.counters = { s.counters with lateReplies := s.counters.lateReplies + 1 } ∧ t.lines = s.lines) := by
  refine ⟨by simp, ?_, attention_countLate ⟨rfl, rfl, rfl⟩, by simp [sameBut_iff], fun h => countLate_below h⟩
  have hother := setEntry_other s e x
  unfold OtherEntries at hother ⊢
  simpa using hother

/-- Settles O40: either entry is written as the rule says, and the reply is counted. -/
theorem lateReply : Obligations.LateReply := by
  intro b f e h d s hrow hsize htag hin hb he
  rw [branchReply_entry hrow hsize hin htag]
  rcases he with he | he
  · rw [replyTo_answered _ _ he hb, if_pos he]
    exact ⟨_, rfl, lateReply_leaves s e _⟩
  · rw [replyTo_linger _ _ he hb, if_neg (by rw [he]; exact nofun)]
    exact ⟨_, rfl, lateReply_leaves s e _⟩

/-! ## Stray replies -/

theorem strayReply_leaves (s : State) (b : BranchId) (k : BitVec 6) :
    AttentionOf (s.recordFault { kind := .strayReply, timestamp := s.timeBase, branch := some b, downTag := some k })
      (s.strayReply b k) ∧ SameBut [.faults, .lines, .counters] s (s.strayReply b k) :=
  ⟨⟨rfl, rfl, rfl⟩, strayReply_frame b k s⟩

/-- Settles O41: a tag of 48 or more names no entry; a tag below names one, which is neither matched nor late. -/
theorem strayReply : Obligations.StrayReply := by
  intro b f s hrow hsize hin hstray
  by_cases htag : f.replyTag.toNat < 48
  · obtain ⟨e, he⟩ : ∃ e : EntryId, f.replyTag.toNat = e.val := ⟨⟨_, htag⟩, rfl⟩
    have hk : BitVec.ofNat 6 e.val = f.replyTag := by rw [← he]; simp
    have hone : s.replyTo b e (.ofCode f.replyStatus) f.replyData = s.strayReply b f.replyTag := by
      have hx := hstray e he
      rw [← hk]
      unfold State.replyTo
      cases hentry : s.entries[e] with
      | issued h d | linger h d =>
        rw [hentry] at hx
        exact if_neg hx
      | answered h o =>
        cases o with
        | true =>
          rw [hentry] at hx
          exact if_neg hx
        | false => rfl
      | free | queued h data => rfl
    exact ⟨_, (branchReply_entry hrow hsize hin he).trans (congrArg _ hone), strayReply_leaves s b _⟩
  · exact ⟨_, branchReply_no_entry hrow hsize hin htag, strayReply_leaves s b _⟩

end Sys2Proof.Machine
end

section
/-! Deadlines (R34, R35, R46, R49, R117): when one is reached, and the three expiries. -/

namespace Sys2Proof.Machine

open Sys2Proof.Safety

theorem reached_eq_false_iff (d now : Time) :
    reached d now = false ↔ 1 ≤ (d - now).toNat ∧ (d - now).toNat ≤ 2147483647 := by
  simp only [reached, Bool.not_eq_false', Bool.and_eq_true, decide_eq_true_eq]

section
variable {e : EntryId} {h : Held} {d : Time} {s : State}

theorem requestDeadlineExpiry_issued (he : s.entries[e] = .issued h d) : exec (.requestDeadlineExpiry e) s =
    if reached d s.timeBase then .next (s.answerEntry e h true .timeout []) else .fault .notDue := by
  simp only [exec, execRequestDeadlineExpiry, he]

theorem lingerExpiry_linger (he : s.entries[e] = .linger h d) : exec (.lingerExpiry e) s =
    if reached d s.timeBase then .next (s.setEntry e .free) else .fault .notDue := by
  simp only [exec, execLingerExpiry, he]

end

/-! ## Resend deadlines -/

theorem resendReached_iff (n : LineId) (now : Time) (x : Delivery) :
    x.resendReached n now = true ↔ x.line = n ∧ ∃ d : Time, x.send = .sent d ∧ reached d now = true := by
  unfold Delivery.resendReached
  cases x.send <;> simp

/-- A record whose resend deadline is reached becomes RESEND-DUE in its place (R117). -/
theorem resendDeadlineExpiry_due {pre post : List Delivery} {x : Delivery} {d : Time} {s : State}
    (hs : s.deliveries = pre ++ x :: post) (hx : x.send = .sent d) (hpre : ∀ y ∈ pre, y.line ≠ x.line)
    (hd : reached d s.timeBase = true) : exec (.resendDeadlineExpiry x.line) s =
      .next { s with deliveries := pre ++ { x with send := .resendDue } :: post } := by
  have hself : x.resendReached x.line s.timeBase = true := (resendReached_iff _ _ _).mpr ⟨rfl, d, hx, hd⟩
  have hbefore (y : Delivery) (hy : y ∈ pre) : y.resendReached x.line s.timeBase = false :=
    Bool.eq_false_iff.mpr fun h => hpre y hy ((resendReached_iff _ _ _).mp h).1
  show execResendDeadlineExpiry x.line s = _
  unfold execResendDeadlineExpiry
  rw [hs, if_pos (List.any_eq_true.mpr ⟨x, by simp, hself⟩), updateFirst_append _ _ _ _ _ hbefore hself]

/-- No record of the line has a resend deadline that is reached: the expiry is not due (log entry 3). -/
theorem resendDeadlineExpiry_not_due {n : LineId} {s : State}
    (h : ∀ x ∈ s.deliveries, x.line = n → ∀ d : Time, x.send = .sent d → reached d s.timeBase = false) :
    exec (.resendDeadlineExpiry n) s = .fault .notDue := by
  refine if_neg fun hany => ?_
  obtain ⟨x, hx, hr⟩ := List.any_eq_true.mp hany
  obtain ⟨hline, d, hsend, hd⟩ := (resendReached_iff _ _ _).mp hr
  rw [h x hx hline d hsend] at hd
  cases hd

/-- Settles O47: the comparison of R46, the class values, and each expiry by whether its deadline is reached. -/
theorem expiries : Obligations.Expiries := by
  refine ⟨reached_eq_false_iff, fun k => ⟨rfl, rfl, rfl, rfl⟩, fun s => ⟨fun e h d he => ?_, fun e h d he => ?_,
    fun pre post x d hs hx hpre hd => ?_, fun n => resendDeadlineExpiry_not_due⟩⟩
  · rw [requestDeadlineExpiry_issued he]
    refine ⟨fun hd => ?_, fun hd => by rw [hd]; rfl⟩
    rw [if_pos hd]
    exact answerEntry_next s e h true .timeout []
  · rw [lingerExpiry_linger he]
    refine ⟨fun hd => ?_, fun hd => by rw [hd]; rfl⟩
    rw [if_pos hd]
    exact ⟨_, rfl, setEntry_self s e _, setEntry_other s e _, by simp [sameBut_iff]⟩
  · exact ⟨_, resendDeadlineExpiry_due hs hx hpre hd, rfl, by simp [sameBut_iff]⟩

end Sys2Proof.Machine
end

section
/-! The Time Base and the Timing Set (R44, R48): what a step on an empty queue leaves, and the commands that write the timing and
the counters together (R193). -/

namespace Sys2Proof.Machine

open Sys2Proof.Safety

/-! ## A microsecond -/

/-- On an empty queue a step is a microsecond (log entry 2). -/
theorem step_empty {s : State} (h : s.pending = []) : step s = .next s.tick := by
  unfold step
  rw [h]

/-- A microsecond advances the Time Base, unless the part is held in power-on reset (R44). -/
theorem tick_timeBase (s : State) : s.tick.timeBase = if s.porst then s.timeBase else s.timeBase + 1 := by
  unfold State.tick
  split <;> rfl

/-- Settles O2: on an empty queue the step is a microsecond, which writes the Time Base alone. -/
theorem idleStepIsOneMicrosecond : Obligations.IdleStepIsOneMicrosecond :=
  fun s h => ⟨s.tick, step_empty h, tick_timeBase s, tick_frame s⟩

/-! ## SET-TIMING and CLEAR-COUNTERS -/

theorem inRange_iff (lo hi : Nat) (w : Word) : inRange lo hi w = true ↔ lo ≤ w.toNat ∧ w.toNat ≤ hi := by
  simp [inRange]

/-- Six durations in range read as the Timing Set in the order of the operands (R48). -/
theorem timing_read {c0 c1 c2 c3 r st : Word} (h : OperandsInRange 6 [c0, c1, c2, c3, r, st]) :
    Timing.read [c0, c1, c2, c3, r, st] = some ⟨c0, c1, c2, c3, r, st⟩ := by
  obtain ⟨hcls, hr0, hr1, hs0, hs1⟩ := h
  have hclass (c : Word) (hc : c ∈ [c0, c1, c2, c3]) : inRange 1 16777215 c = true := (inRange_iff _ _ c).mpr (hcls c hc)
  have hresend : inRange 100 1000000 r = true := (inRange_iff _ _ r).mpr ⟨hr0, hr1⟩
  have hstall : inRange 1000 16000000 st = true := (inRange_iff _ _ st).mpr ⟨hs0, hs1⟩
  simp [Timing.read, hclass, hresend, hstall]

theorem execSetTiming_eq {s : State} {c : Control} {rest : List IntakeFrame} {k : Timing} (h : s.intake = .control c :: rest)
    (hc : c.command = 6) (ho : Timing.read c.operands = some k) :
    exec .setTiming s = .next ({ s with intake := rest, timing := k }.answerNow c .done []) := by
  show execSetTiming s = _
  exact takeControl_operands h (by rw [hc]; rfl) ho

theorem execClearCounters_eq {s : State} {c : Control} {rest : List IntakeFrame} (h : s.intake = .control c :: rest)
    (hc : c.command = 12) (ho : c.operands = []) :
    exec .clearCounters s = .next ({ s with intake := rest, counters := Counters.zero }.answerNow c .done []) := by
  show execClearCounters s = _
  exact takeControl_operands (a := ()) h (by rw [hc]; rfl) (by rw [ho]; rfl)

/-- Settles O29: each command writes its block and is answered DONE. -/
theorem setTimingAndClearCounters : Obligations.SetTimingAndClearCounters := by
  refine ⟨fun c rest c0 c1 c2 c3 r st s h hc ho hrange => ?_, fun c rest s h hc ho => ?_⟩
  · have hread : Timing.read c.operands = some ⟨c0, c1, c2, c3, r, st⟩ := by
      rw [ho] at hrange ⊢
      exact timing_read hrange
    exact ⟨_, execSetTiming_eq h hc hread, ⟨rfl, rfl⟩, rfl, by simp [sameBut_iff]⟩
  · exact ⟨_, execClearCounters_eq h hc ho, ⟨rfl, rfl⟩, rfl, by simp [sameBut_iff]⟩

end Sys2Proof.Machine
end

section
/-! The line configuration (R103) and the fault records (R188): LOAD-LINE, TAKE-FAULTS and power-on reset apart, an event leaves the
configuration of every line, and adds records at the tail of the Fault Queue or none. -/

namespace Sys2Proof.Machine

open Sys2Proof.Safety

/-! ## The configuration of one line -/

/-- The loss of its branch leaves a line's configuration (R83). -/
theorem lostLine_config (s : State) (b : BranchId) (n : LineId) : config (lostLines s b)[n] = config s.lines[n] := by
  simp only [lostLines, Fin.getElem_fin, Vector.getElem_ofFn]
  split
  · split <;> rfl
  · rfl

/-- A trunk reset leaves a line's configuration (R126). -/
theorem lineTrunkReset_config (ln : Line) : config ln.trunkReset = config ln := by
  unfold Line.trunkReset
  split <;> rfl

/-! ## What an event does to the lines and the Fault Queue -/

/-- Every line of `t` has the configuration that it has in `s`, and the fault records of `s` are the oldest of `t`. -/
def AttentionFollows (s t : State) : Prop :=
  (∀ n : LineId, config t.lines[n] = config s.lines[n]) ∧ s.faults <+: t.faults

theorem AttentionFollows.refl (s : State) : AttentionFollows s s := ⟨fun _ => rfl, List.prefix_rfl⟩

theorem AttentionFollows.trans {s t u : State} (hst : AttentionFollows s t) (htu : AttentionFollows t u) :
    AttentionFollows s u :=
  ⟨fun n => (htu.1 n).trans (hst.1 n), hst.2.trans htu.2⟩

theorem attentionFollows_of_eq {s t : State} (hl : t.lines = s.lines) (hf : t.faults = s.faults) : AttentionFollows s t :=
  ⟨fun n => by rw [hl], by rw [hf]⟩

theorem attentionFollows_readsOnly (s : State) : ReadsOnly [.lines, .faults] (AttentionFollows s) := by
  intro t u h htu
  have hl : u.lines = t.lines := h .lines (by simp)
  have hf : u.faults = t.faults := h .faults (by simp)
  exact htu.trans (attentionFollows_of_eq hl hf)

/-! ## The attention path -/

theorem setLine_attentionFollows {s : State} {n : LineId} {ln : Line} (h : config ln = config s.lines[n]) :
    AttentionFollows s (s.setLine n ln) := by
  refine ⟨fun m => ?_, List.prefix_rfl⟩
  by_cases hm : m = n
  · subst hm
    rw [setLine_self, h]
  · rw [setLine_other s n ln m hm]

theorem raise_attentionFollows (n : LineId) (s : State) : AttentionFollows s (s.raise n) := by
  have hraise (m : LineId) (u : State) : AttentionFollows u (u.setLine m u.lines[m].raise) :=
    setLine_attentionFollows (raise_config _)
  have hcount (u : State) : AttentionFollows u u.countCoalesced := by
    unfold State.countCoalesced
    dsimp only
    split
    · exact hraise _ { u with counters := _ }
    · exact attentionFollows_of_eq rfl rfl
  unfold State.raise
  dsimp only
  split
  · exact (hraise n s).trans (hcount _)
  · exact hraise n s

/-- A count writes its counter and may raise I6 (R192). -/
theorem count_attentionFollows (x : Bool) (k : Counters) (s : State) :
    AttentionFollows s (State.signalIf x { s with counters := k }) := by
  unfold State.signalIf
  split
  · exact raise_attentionFollows _ { s with counters := k }
  · exact attentionFollows_of_eq rfl rfl

/-- A fault record is appended, or dropped (R188). -/
theorem recordFault_attentionFollows (f : FaultRecord) (s : State) : AttentionFollows s (s.recordFault f) := by
  unfold State.recordFault
  split
  · have happend : AttentionFollows s { s with faults := s.faults ++ [f] } := ⟨fun _ => rfl, List.prefix_append _ _⟩
    exact happend.trans (raise_attentionFollows _ _)
  · exact (count_attentionFollows _ _ s).trans (raise_attentionFollows _ _)

/-! ## Losses and trunk reset -/

theorem lose_attentionFollows (s : State) (b : BranchId) (st : BranchState) : AttentionFollows s (s.lose b st) := by
  refine ⟨fun n => ?_, by simp⟩
  rw [lose_lines]
  exact lostLine_config s b n

theorem lossBy_attentionFollows (s : State) (b : BranchId) (cause : LossCause) : AttentionFollows s (s.lossBy b cause) :=
  ((lose_attentionFollows s b _).trans (raise_attentionFollows _ _)).trans (recordFault_attentionFollows _ _)

theorem setBranch_attentionFollows (s : State) (b : BranchId) (br : Branch) : AttentionFollows s (s.setBranch b br) :=
  attentionFollows_of_eq (by simp) (by simp)

theorem branchCheckFails_attentionFollows (b : BranchId) (s : State) : AttentionFollows s (s.branchCheckFails b) := by
  unfold State.branchCheckFails
  split
  · exact (setBranch_attentionFollows s b _).trans (lossBy_attentionFollows _ b .check)
  · exact .refl s

theorem trunkReset_attentionFollows (sends : Bool) (s : State) : AttentionFollows s (s.trunkReset sends) := by
  have hcount (u : State) (hl : ∀ n : LineId, config u.lines[n] = config s.lines[n]) (hf : u.faults = s.faults) :
      AttentionFollows s u.countTrunkReset :=
    .trans ⟨hl, by rw [hf]⟩ (count_attentionFollows _ _ u)
  unfold State.trunkReset
  refine hcount _ (fun n => ?_) rfl
  simpa using lineTrunkReset_config s.lines[n]

theorem trunkCheckFails_attentionFollows (s : State) : AttentionFollows s s.trunkCheckFails := by
  unfold State.trunkCheckFails
  split
  · exact trunkReset_attentionFollows true s
  · exact .refl s

/-! ## Frames received -/

theorem arrive_attentionFollows (x : IntakeFrame) (s : State) : AttentionFollows s (s.arrive x) := by
  unfold State.arrive
  split
  · exact .refl s
  · split
    · exact attentionFollows_of_eq rfl rfl
    · exact recordFault_attentionFollows _ s

/-- An acknowledge changes the state of its line and its again mark (R119). -/
theorem acknowledge_attentionFollows (d : Delivery) (s : State) : AttentionFollows s (s.acknowledge d) := by
  have hline : AttentionFollows s (s.setLine d.line s.lines[d.line].acknowledge) := setLine_attentionFollows rfl
  exact hline.trans (attentionFollows_of_eq (by simp [State.acknowledge]) (by simp [State.acknowledge]))

theorem takeAck_attentionFollows (v : BitVec 8) (s : State) : AttentionFollows s (s.takeAck v) := by
  unfold State.takeAck
  split
  · exact .refl s
  · split
    · exact acknowledge_attentionFollows _ s
    · exact count_attentionFollows _ _ s

theorem trunkUnexpected_attentionFollows (k : BitVec 4) (s : State) : AttentionFollows s (s.trunkUnexpected k) := by
  unfold State.trunkUnexpected
  split
  · exact recordFault_attentionFollows _ s
  · exact .refl s

theorem matchedReply_attentionFollows (b : BranchId) (e : EntryId) (h : Held) (st : ReplyStatus) (data : List Word) (s : State) :
    AttentionFollows s (s.matchedReply b e h st data) := by
  have hanswer (st : ReplyStatus) (ws : List Word) : AttentionFollows s (s.answerEntry e h false st ws) :=
    attentionFollows_of_eq (by simp) (by simp)
  unfold State.matchedReply
  split
  · split
    · exact hanswer .ok data
    · exact (hanswer .targetError []).trans (recordFault_attentionFollows _ _)
  · exact hanswer st []

theorem replyTo_attentionFollows (b : BranchId) (e : EntryId) (st : ReplyStatus) (data : List Word) (s : State) :
    AttentionFollows s (s.replyTo b e st data) := by
  have hstray : AttentionFollows s (s.strayReply b (BitVec.ofNat 6 e.val)) := recordFault_attentionFollows _ s
  have hlate (x : Entry) : AttentionFollows s (s.setEntry e x).countLate :=
    (attentionFollows_of_eq (by simp) (by simp)).trans (count_attentionFollows _ _ (s.setEntry e x))
  unfold State.replyTo
  dsimp only
  split
  case h_1 =>
    split
    · exact matchedReply_attentionFollows b e _ st data s
    · exact hstray
  case h_2 =>
    split
    · exact hlate _
    · exact hstray
  case h_3 =>
    split
    · exact hlate _
    · exact hstray
  all_goals exact hstray

theorem takeReply_attentionFollows (b : BranchId) (t : BitVec 6) (st : ReplyStatus) (data : List Word) (s : State) :
    AttentionFollows s (s.takeReply b t st data) := by
  unfold State.takeReply
  split
  · split
    · exact replyTo_attentionFollows b _ st data s
    · exact recordFault_attentionFollows _ s
  · exact .refl s

theorem takeCredit_attentionFollows (b : BranchId) (n : Nat) (s : State) : AttentionFollows s (s.takeCredit b n) := by
  unfold State.takeCredit
  dsimp only
  split
  · split
    · exact setBranch_attentionFollows s b _
    · exact (setBranch_attentionFollows s b _).trans (recordFault_attentionFollows _ _)
  · exact .refl s

theorem takeNotice_attentionFollows (b : BranchId) (v : BitVec 8) (s : State) : AttentionFollows s (s.takeNotice b v) := by
  unfold State.takeNotice
  split
  · split
    · exact raise_attentionFollows _ s
    · exact recordFault_attentionFollows _ s
  · exact .refl s

/-- A change of a port followed by a raise (R79, R87, R88). -/
theorem setBranch_raise_attentionFollows (s : State) (b : BranchId) (br : Branch) (k : Fin 8) :
    AttentionFollows s ((s.setBranch b br).raiseInternal k) :=
  (setBranch_attentionFollows s b br).trans (raise_attentionFollows _ _)

theorem takeWithdraw_attentionFollows (b : BranchId) (s : State) : AttentionFollows s (s.takeWithdraw b) := by
  unfold State.takeWithdraw
  split
  case h_4 => exact recordFault_attentionFollows _ s
  case h_1 | h_2 | h_3 => exact setBranch_raise_attentionFollows s b _ 3
  all_goals exact .refl s

theorem takeReturn_attentionFollows (b : BranchId) (s : State) : AttentionFollows s (s.takeReturn b) := by
  unfold State.takeReturn
  split
  case h_1 => exact setBranch_raise_attentionFollows s b _ 4
  case h_2 | h_3 | h_4 => exact recordFault_attentionFollows _ s
  all_goals exact .refl s

theorem branchUnexpected_attentionFollows (b : BranchId) (k : BitVec 4) (s : State) :
    AttentionFollows s (s.branchUnexpected b k) := by
  unfold State.branchUnexpected
  split
  · exact recordFault_attentionFollows _ s
  · exact .refl s

/-! ## The other commands -/

theorem trunkUp_attentionFollows (s : State) : AttentionFollows s s.trunkUp := by
  have hup (k : Trunk) (n : Nat) : AttentionFollows s { s with trunk := k, acc := n } := attentionFollows_of_eq rfl rfl
  unfold State.trunkUp
  dsimp only
  split
  · exact (hup _ _).trans (raise_attentionFollows _ _)
  · exact hup _ _

theorem sendNotice_attentionFollows (s : State) : Leaves (AttentionFollows s) (execSendNotice s) := by
  have hsent (ds : List Delivery) (f : TrunkFrame) : AttentionFollows s (State.transmit f .control { s with deliveries := ds }) :=
    attentionFollows_of_eq rfl rfl
  unfold execSendNotice
  split
  · apply leaves_next
    split
    · exact (hsent _ _).trans (count_attentionFollows _ _ _)
    · exact hsent _ _
  · exact leaves_fault

theorem routeExamination_attentionFollows (s : State) : Leaves (AttentionFollows s) (execRouteExamination s) := by
  unfold execRouteExamination
  split
  · apply leaves_next
    split
    · unfold State.refuse
      split
      · exact (attentionFollows_of_eq rfl rfl).trans (recordFault_attentionFollows _ (State.returnCredit { s with intake := _ }))
      · exact attentionFollows_of_eq rfl rfl
    · exact (attentionFollows_of_eq rfl rfl).trans (recordFault_attentionFollows _ (State.returnCredit { s with intake := _ }))
    · exact .refl s
    · exact (attentionFollows_readsOnly s).keep (routeVia_frame _ _ _) (by decide) (attentionFollows_of_eq rfl rfl)
  · exact leaves_fault

theorem resetBranch_attentionFollows (c : Control) (b : BranchId) (s : State) : AttentionFollows s (s.resetBranch c b) := by
  have hwork : AttentionFollows s (s.resetWork c.seq b) := by
    unfold State.resetWork
    dsimp only
    split
    · have hlose : AttentionFollows s ((s.complete (abortFence b)).lose b .resetting) :=
        (attentionFollows_of_eq rfl rfl).trans (lose_attentionFollows (s.complete (abortFence b)) b .resetting)
      refine hlose.trans (.trans ?_ (recordFault_attentionFollows _ _))
      exact attentionFollows_of_eq rfl rfl
    · exact attentionFollows_of_eq rfl rfl
  unfold State.resetBranch
  split
  · exact attentionFollows_of_eq rfl rfl
  · split
    · exact attentionFollows_of_eq rfl rfl
    · exact hwork.trans (attentionFollows_of_eq rfl rfl)

theorem branchTrained_attentionFollows (b : BranchId) (n : Nat) (s : State) : AttentionFollows s (s.branchTrained b n) := by
  unfold State.branchTrained
  dsimp only
  split
  case h_1 => exact setBranch_raise_attentionFollows s b _ 2
  case h_2 =>
    have hended (br : Branch) : AttentionFollows s ((s.setBranch b br).complete (endReset b .done)) :=
      attentionFollows_of_eq (by simp) (by simp)
    exact (hended _).trans (raise_attentionFollows _ _)
  all_goals exact .refl s

theorem selection_attentionFollows (s : State) : Leaves (AttentionFollows s) (execSelection s) := by
  unfold execSelection
  split
  · split
    · rename_i n _
      have hline : AttentionFollows s (s.setLine n { s.lines[n] with state := .delivered, again := false }) :=
        setLine_attentionFollows rfl
      exact leaves_next (hline.trans (attentionFollows_of_eq rfl rfl))
    · exact leaves_fault
  · exact leaves_fault

/-! ## Every command -/

/-- Every command but LOAD-LINE, TAKE-FAULTS and power-on reset lets the lines and the Fault Queue follow. -/
theorem exec_attentionFollows {c : Instr} (hp : c ≠ .powerOnReset) (hl : c ≠ .loadLine) (hf : c ≠ .takeFaults) (s : State) :
    Leaves (AttentionFollows s) (exec c s) := by
  by_cases hw : ∀ k ∈ [Block.lines, .faults], k ∉ writes c
  · exact exec_keeps_of_frame (attentionFollows_readsOnly s) (.refl s) hw
  cases c <;> simp only [exec]
  case powerOnReset => exact absurd rfl hp
  case loadLine => exact absurd rfl hl
  case takeFaults => exact absurd rfl hf
  case trunkTrainingComplete =>
    refine leaves_next ?_
    split
    · exact trunkUp_attentionFollows s
    · exact .refl s
  case trunkCheckFailure => exact leaves_next (trunkCheckFails_attentionFollows s)
  case trunkResetSequenceReceived =>
    refine leaves_next ?_
    split
    · exact trunkReset_attentionFollows false s
    · exact .refl s
  case trunkPartnerLost =>
    have hlost : AttentionFollows s { s with trunk := { s.trunk with partner := false } } := attentionFollows_of_eq rfl rfl
    refine leaves_next ?_
    split
    · exact hlost.trans (trunkReset_attentionFollows false _)
    all_goals exact attentionFollows_of_eq rfl rfl
  case intakeArrival f => exact leaves_takeFrame (arrive_attentionFollows _ s) (trunkCheckFails_attentionFollows s)
  case noticeAck f => exact leaves_takeFrame (takeAck_attentionFollows _ s) (trunkCheckFails_attentionFollows s)
  case trunkCreditReceived f => exact leaves_takeFrame (.refl s) (trunkCheckFails_attentionFollows s)
  case trunkUnexpectedFrame f =>
    exact leaves_takeFrame (trunkUnexpected_attentionFollows _ s) (trunkCheckFails_attentionFollows s)
  case sendNotice => exact sendNotice_attentionFollows s
  case routeExamination => exact routeExamination_attentionFollows s
  case resetBranch =>
    exact leaves_command (attentionFollows_readsOnly s) (by decide) (by decide) (.refl s)
      fun c b u _ hu => hu.trans (resetBranch_attentionFollows c b u)
  case branchTrainingComplete b capacity =>
    refine leaves_next ?_
    split
    · exact .refl s
    · exact branchTrained_attentionFollows b _ s
  case branchPartnerLost b =>
    refine leaves_next ?_
    split
    · exact (setBranch_attentionFollows s b _).trans (lossBy_attentionFollows _ b .signalLost)
    · exact setBranch_attentionFollows s b _
  case branchCheckFailure b => exact leaves_next (branchCheckFails_attentionFollows b s)
  case branchResetSequenceReceived b =>
    refine leaves_next ?_
    split
    · exact lossBy_attentionFollows s b .partnerReset
    · exact .refl s
  case stallTimerExpiry b =>
    exact leaves_guard fun _ => (setBranch_attentionFollows s b _).trans (lossBy_attentionFollows _ b .stall)
  case branchReply b f => exact leaves_takeFrame (takeReply_attentionFollows b _ _ _ s) (branchCheckFails_attentionFollows b s)
  case branchCredit b f => exact leaves_takeFrame (takeCredit_attentionFollows b _ s) (branchCheckFails_attentionFollows b s)
  case branchNotice b f => exact leaves_takeFrame (takeNotice_attentionFollows b _ s) (branchCheckFails_attentionFollows b s)
  case withdraw b f => exact leaves_takeFrame (takeWithdraw_attentionFollows b s) (branchCheckFails_attentionFollows b s)
  case unitReturn b f => exact leaves_takeFrame (takeReturn_attentionFollows b s) (branchCheckFails_attentionFollows b s)
  case branchUnexpectedFrame b f =>
    exact leaves_takeFrame (branchUnexpected_attentionFollows b _ s) (branchCheckFails_attentionFollows b s)
  case selection => exact selection_attentionFollows s
  all_goals simp [writes, controlAnswerBlocks, entryAnswerBlocks, completionBlocks] at hw

end Sys2Proof.Machine
end

section
/-! Who may change the Time Base, the Timing Set, the configuration of lines and windows, and the fault records (R1, R44, R47, R103,
R188). -/

namespace Sys2Proof.Machine

open Sys2Proof.Safety

/-! ## Who writes the time and the reset pin -/

/-- Only power-on reset writes the Time Base (R44). -/
theorem timeBase_mem_writes {c : Instr} (h : .timeBase ∈ writes c) : c = .powerOnReset := by
  cases c
  case powerOnReset => rfl
  all_goals exact absurd h (by simp only [writes]; decide)

/-- Only power-on reset and SET-TIMING write the Timing Set (R47). -/
theorem timing_mem_writes {c : Instr} (h : .timing ∈ writes c) : c = .powerOnReset ∨ c = .setTiming := by
  cases c
  case powerOnReset => exact .inl rfl
  case setTiming => exact .inr rfl
  all_goals exact absurd h (by simp only [writes]; decide)

/-- Only the two events of PORST_N write it (R44). -/
theorem porst_mem_writes {c : Instr} (h : .porst ∈ writes c) : c = .powerOnReset ∨ c = .leavePowerOnReset := by
  cases c
  case powerOnReset => exact .inl rfl
  case leavePowerOnReset => exact .inr rfl
  all_goals exact absurd h (by simp only [writes]; decide)

/-! ## Configuration and fault records -/

/-- A record that follows is EMPTY, or keeps its configuration. -/
theorem Window.Follows.config {v w : Window} (h : v.Follows w) : w = Window.blank ∨
    (w.base = v.base ∧ w.size = v.size ∧ w.branch = v.branch ∧ w.target = v.target ∧ w.rights = v.rights ∧ w.cls = v.cls) := by
  rcases h with hblank | ⟨hw, -, -⟩
  · exact .inl hblank
  · right
    rw [hw]
    exact ⟨rfl, rfl, rfl, rfl, rfl, rfl⟩

/-- Only LOAD-LINE and power-on reset change the configuration of a line (R103). -/
theorem exec_lineConfig {c : Instr} (hp : c ≠ .powerOnReset) (hl : c ≠ .loadLine) (s : State) (n : LineId) :
    Leaves (fun t => config t.lines[n] = config s.lines[n]) (exec c s) := by
  intro t h
  by_cases hf : c = .takeFaults
  · subst hf
    have hlines : t.lines = s.lines := (exec_frame _ s t h).1 .lines (by decide)
    rw [hlines]
  · exact (exec_attentionFollows hp hl hf s t h).1 n

/-- Only TAKE-FAULTS and power-on reset remove fault records (R188). -/
theorem exec_faultsKept {c : Instr} (hp : c ≠ .powerOnReset) (hf : c ≠ .takeFaults) (s : State) :
    Leaves (fun t => s.faults <+: t.faults) (exec c s) := by
  intro t h
  by_cases hl : c = .loadLine
  · subst hl
    have hfaults : t.faults = s.faults := (exec_frame _ s t h).1 .faults (by decide)
    rw [hfaults]
  · exact (exec_attentionFollows hp hl hf s t h).2

/-- Settles O51: what the frame of a command names for the pin, the time and the timing; what follows for windows and lines. -/
theorem whatCommandsKeep : Obligations.WhatCommandsKeep := by
  intro c s t h
  obtain ⟨hsame, hpending⟩ := exec_frame c s t h
  refine ⟨hpending, fun hp => ⟨?_, fun hc => ?_, fun hc => ?_, fun hc n => exec_lineConfig hp hc s n t h,
    fun hc w => (exec_windowsFollow c hc s t h w).config, fun hc => exec_faultsKept hp hc s t h⟩⟩
  · exact hsame .timeBase fun hk => hp (timeBase_mem_writes hk)
  · exact hsame .timing fun hk => (timing_mem_writes hk).elim hp hc
  · exact hsame .porst fun hk => (porst_mem_writes hk).elim hp hc

end Sys2Proof.Machine
end

section
/-! The ports and the links of the part (R58, R65, R71, R76, R78, R79, R81, R97, R99, R162), record by record: what is in order at one
port, at one link and at the trunk, and which changes of a record keep it so. -/

namespace Sys2Proof.Machine

open Sys2Proof.Safety

/-! ## The states of a branch -/

/-- Items are issued in ACTIVE and DRAINING (R61). -/
theorem issues_iff (st : BranchState) : st.issues = true ↔ st = .active ∨ st = .draining := by
  cases st <;> simp [BranchState.issues]

theorem inService_of_issues {st : BranchState} (h : st.issues = true) : st.inService = true := by
  rcases (issues_iff st).mp h with rfl | rfl <;> rfl

/-! ## One record -/

/-- The bounds of a port (R58, R65, R79). -/
structure PortBounds (br : Branch) : Prop where
  queue : br.queue.length ≤ Config.queueCapacity
  credit : br.credit ≤ br.capacity
  capacity : br.capacity ≤ 8
  service : br.state.inService = true → 1 ≤ br.capacity

/-- A branch link agrees with its partner signal; `held` is power-on reset (R76, R78, R97, R99). -/
structure LinkAgrees (held : Bool) (br : Branch) : Prop where
  present : br.state = .training ∨ br.state.inService = true → br.partner = true
  ignored : br.ignorePartner = true → br.state = .down ∧ br.partner = true
  wait : br.partnerWait.isSome = true ↔ br.state = .resetting
  down : br.state = .down → br.partner = true → br.ignorePartner = true ∨ held = true

/-- A port in order: its bounds, its stall timer and its link. -/
structure PortInOrder (held : Bool) (br : Branch) : Prop where
  bounds : PortBounds br
  timer : TimerOk br
  link : LinkAgrees held br

/-- The trunk's link agrees with its partner signal (R162). -/
structure TrunkInOrder (held : Bool) (k : Trunk) : Prop where
  present : k.state ≠ .down → k.partner = true
  down : k.state = .down → k.partner = true → held = true
  held : held = true → k.state = .down

/-- The ports and the links of the part are in order. -/
structure PartInOrder (s : State) : Prop where
  ports : ∀ b : BranchId, PortInOrder s.porst s.branches[b]
  trunk : TrunkInOrder s.porst s.trunk

theorem partInOrder_iff (s : State) : PartInOrder s ↔ PortsOk s ∧ LinksOk s := by
  constructor
  · rintro ⟨hports, htrunk⟩
    refine ⟨fun b => ?_, fun b => ?_, htrunk.present, htrunk.down, htrunk.held⟩
    · obtain ⟨⟨hqueue, hcredit, hcapacity, hservice⟩, htimer, -⟩ := hports b
      exact ⟨hqueue, hcredit, hcapacity, hservice, htimer⟩
    · obtain ⟨-, -, hpresent, hignored, hwait, hdown⟩ := hports b
      exact ⟨hpresent, hignored, hwait, hdown⟩
  · rintro ⟨hports, hlinks, hpresent, hdown, hheld⟩
    refine ⟨fun b => ?_, hpresent, hdown, hheld⟩
    obtain ⟨hqueue, hcredit, hcapacity, hservice, htimer⟩ := hports b
    obtain ⟨hp, hi, hw, hd⟩ := hlinks b
    exact ⟨⟨hqueue, hcredit, hcapacity, hservice⟩, htimer, ⟨hp, hi, hw, hd⟩⟩

theorem partInOrder_readsOnly : ReadsOnly [.porst, .branches, .trunk] PartInOrder := by
  intro s t h hs
  have hporst : t.porst = s.porst := h .porst (by simp)
  have hbranches : t.branches = s.branches := h .branches (by simp)
  have htrunk : t.trunk = s.trunk := h .trunk (by simp)
  exact ⟨fun b => by rw [hporst, hbranches]; exact hs.ports b, by rw [hporst, htrunk]; exact hs.trunk⟩

/-- What leaves the pin, the branches and the trunk keeps the order. -/
theorem inOrder_of_frame {ks : List Block} {s t : State} (hs : PartInOrder s) (h : SameBut ks s t)
    (hk : ∀ k ∈ [Block.porst, .branches, .trunk], k ∉ ks) : PartInOrder t :=
  partInOrder_readsOnly.keep h hk hs

/-! ## Changes of a port -/

/-- What a link's agreement reads of a port besides its state (R76). -/
def Branch.signals (br : Branch) : Bool × Bool × Option Time := (br.partner, br.ignorePartner, br.partnerWait)

/-- What the bounds of a port read besides its state (R58, R65). -/
def Branch.stock (br : Branch) : List Item × Nat × Nat := (br.queue, br.credit, br.capacity)

/-- A port with no more items and credit than before stays within its bounds when it does not come into service. -/
theorem PortBounds.lower {br br' : Branch} (h : PortBounds br) (hqueue : br'.queue.length ≤ br.queue.length)
    (hcredit : br'.credit ≤ br.credit) (hcapacity : br'.capacity = br.capacity)
    (hstate : br'.state.inService = true → br.state.inService = true) : PortBounds br' where
  queue := hqueue.trans h.queue
  credit := hcapacity ▸ hcredit.trans h.credit
  capacity := hcapacity ▸ h.capacity
  service hin := hcapacity ▸ h.service (hstate hin)

theorem PortBounds.stay {br br' : Branch} (h : PortBounds br) (hstock : br'.stock = br.stock)
    (hstate : br'.state.inService = true → br.state.inService = true) : PortBounds br' := by
  simp only [Branch.stock, Prod.mk.injEq] at hstock
  obtain ⟨hqueue, hcredit, hcapacity⟩ := hstock
  exact h.lower (by rw [hqueue]) hcredit.le hcapacity hstate

/-- A link out of DOWN and RESETTING agrees when its signal is present, not ignored, and no partner wait runs (R76). -/
theorem linkAgrees_iff_present {held : Bool} {br : Branch} (h : br.state = .training ∨ br.state.inService = true) :
    LinkAgrees held br ↔ br.partner = true ∧ br.ignorePartner = false ∧ br.partnerWait = none := by
  have hdown : br.state ≠ .down := by rintro hd; rw [hd] at h; exact absurd h (by decide)
  have hreset : br.state ≠ .resetting := by rintro hd; rw [hd] at h; exact absurd h (by decide)
  constructor
  · rintro ⟨hpresent, hignored, hwait, -⟩
    exact ⟨hpresent h, Bool.eq_false_iff.mpr fun hi => hdown (hignored hi).1,
      Option.not_isSome_iff_eq_none.mp fun hw => hreset (hwait.mp hw)⟩
  · rintro ⟨hpresent, hignored, hwait⟩
    exact ⟨fun _ => hpresent, by simp [hignored], by simp [hwait, hreset], fun hd => absurd hd hdown⟩

/-- A change that leaves the link alone. -/
theorem LinkAgrees.same {held : Bool} {br br' : Branch} (h : LinkAgrees held br) (hstate : br'.state = br.state)
    (hsignals : br'.signals = br.signals) : LinkAgrees held br' := by
  simp only [Branch.signals, Prod.mk.injEq] at hsignals
  obtain ⟨hpartner, hignore, hwait⟩ := hsignals
  constructor
  · rw [hstate, hpartner]; exact h.present
  · rw [hstate, hpartner, hignore]; exact h.ignored
  · rw [hstate, hwait]; exact h.wait
  · rw [hstate, hpartner, hignore]; exact h.down

/-- A change of state within service. -/
theorem LinkAgrees.inService {held : Bool} {br br' : Branch} (h : LinkAgrees held br) (hold : br.state.inService = true)
    (hnew : br'.state.inService = true) (hsignals : br'.signals = br.signals) : LinkAgrees held br' := by
  simp only [Branch.signals, Prod.mk.injEq] at hsignals
  obtain ⟨hpartner, hignore, hwait⟩ := hsignals
  rw [linkAgrees_iff_present (.inr hnew), hpartner, hignore, hwait]
  exact (linkAgrees_iff_present (.inr hold)).mp h

/-- A link in DOWN agrees when the ignore-partner mark is set just when the signal is present (R78, R99). -/
theorem linkAgrees_down {held : Bool} {br : Branch} (hstate : br.state = .down) (hignore : br.ignorePartner = br.partner)
    (hwait : br.partnerWait = none) : LinkAgrees held br where
  present h := by rw [hstate] at h; exact absurd h (by decide)
  ignored hi := ⟨hstate, hignore ▸ hi⟩
  wait := by simp [hwait, hstate]
  down _ hp := .inl (hignore ▸ hp)

/-- A port written as `restall` leaves it is in order when its bounds and its link are (R71). -/
theorem portInOrder_restall {held : Bool} {br : Branch} (now len : Time) (hb : PortBounds br) (hl : LinkAgrees held br) :
    PortInOrder held (br.restall now len) :=
  ⟨⟨hb.queue, hb.credit, hb.capacity, hb.service⟩, restall_timerOk now len br, ⟨hl.present, hl.ignored, hl.wait, hl.down⟩⟩

/-! ## One port written -/

/-- All but branch `b` is in order: what holds while an event writes that port. -/
def InOrderApart (b : BranchId) (s : State) : Prop :=
  (∀ c : BranchId, c ≠ b → PortInOrder s.porst s.branches[c]) ∧ TrunkInOrder s.porst s.trunk

theorem PartInOrder.apart {s : State} (hs : PartInOrder s) (b : BranchId) : InOrderApart b s := ⟨fun c _ => hs.ports c, hs.trunk⟩

theorem InOrderApart.of_frame {ks : List Block} {b : BranchId} {s t : State} (hs : InOrderApart b s) (h : SameBut ks s t)
    (hk : ∀ k ∈ [Block.porst, .trunk], k ∉ ks) (hother : OtherBranches b s t) : InOrderApart b t := by
  have hporst : t.porst = s.porst := h.1 .porst (hk _ (by simp))
  have htrunk : t.trunk = s.trunk := h.1 .trunk (hk _ (by simp))
  exact ⟨fun c hc => by rw [hporst, hother c hc]; exact hs.1 c hc, by rw [hporst, htrunk]; exact hs.2⟩

theorem InOrderApart.with_port {b : BranchId} {s : State} (hs : InOrderApart b s) (hb : PortInOrder s.porst s.branches[b]) :
    PartInOrder s := by
  refine ⟨fun c => ?_, hs.2⟩
  by_cases hc : c = b
  · rw [hc]
    exact hb
  · exact hs.1 c hc

/-- A port written within its bounds, its link agreeing, leaves the part in order. -/
theorem InOrderApart.setBranch {b : BranchId} {br : Branch} {s : State} (hs : InOrderApart b s) (hb : PortBounds br)
    (hl : LinkAgrees s.porst br) : PartInOrder (s.setBranch b br) := by
  refine (hs.of_frame (setBranch_frame s b br) (by decide) (setBranch_other s b br)).with_port ?_
  rw [setBranch_self]
  exact portInOrder_restall _ _ hb hl

theorem setBranch_inOrder {b : BranchId} {br : Branch} {s : State} (hs : PartInOrder s) (hb : PortBounds br)
    (hl : LinkAgrees s.porst br) : PartInOrder (s.setBranch b br) :=
  (hs.apart b).setBranch hb hl

/-- A port that gains neither item nor credit and keeps its capacity, its state and its link. -/
theorem setBranch_lower_inOrder {b : BranchId} {br : Branch} {s : State} (hs : PartInOrder s)
    (hqueue : br.queue.length ≤ s.branches[b].queue.length) (hcredit : br.credit ≤ s.branches[b].credit)
    (hcapacity : br.capacity = s.branches[b].capacity) (hstate : br.state = s.branches[b].state)
    (hsignals : br.signals = s.branches[b].signals) : PartInOrder (s.setBranch b br) := by
  obtain ⟨hbounds, -, hlink⟩ := hs.ports b
  exact setBranch_inOrder hs (hbounds.lower hqueue hcredit hcapacity (by rw [hstate]; exact id))
    (hlink.same hstate hsignals)

/-- A port that stays in service with its queue, its credit and its link. -/
theorem setBranch_service_inOrder {b : BranchId} {br : Branch} {s : State} (hs : PartInOrder s)
    (hold : s.branches[b].state.inService = true) (hnew : br.state.inService = true)
    (hstock : br.stock = s.branches[b].stock) (hsignals : br.signals = s.branches[b].signals) :
    PartInOrder (s.setBranch b br) := by
  obtain ⟨hbounds, -, hlink⟩ := hs.ports b
  exact setBranch_inOrder hs (hbounds.stay hstock fun _ => hold) (hlink.inService hold hnew hsignals)

end Sys2Proof.Machine
end

section
/-! The shared operations keep the ports and the links in order: completion of a drain (R93), loss of a branch (R81, R82), trunk reset
(R75, R102, R162), CLEAR-PATH (R195), and the Control Unit's branch commands (R90 to R97). -/

namespace Sys2Proof.Machine

open Sys2Proof.Safety

/-! ## Completion -/

/-- The fence states are states of service, entered with the queue, the credit and the link as they are (R91). -/
theorem enterFence_keeps (lend : Bool) (br : Branch) :
    (br.enterFence lend).state.inService = true ∧ (br.enterFence lend).stock = br.stock ∧
    (br.enterFence lend).signals = br.signals := by
  cases lend <;> exact ⟨rfl, rfl, rfl⟩

theorem enterFence_inOrder {s : State} {b : BranchId} (lend : Bool) (hs : PartInOrder s)
    (hin : s.branches[b].state.inService = true) : PartInOrder (s.setBranch b (s.branches[b].enterFence lend)) := by
  obtain ⟨hnew, hstock, hsignals⟩ := enterFence_keeps lend s.branches[b]
  exact setBranch_service_inOrder hs hin hnew hstock hsignals

/-- A drain that ends leaves the port in order (R93). -/
theorem endDrain_inOrder {held : Bool} {br : Branch} (now len : Time) (h : PortInOrder held br) (hin : br.state.inService = true) :
    PortInOrder held (br.endDrain.restall now len) := by
  obtain ⟨hnew, hstock, hsignals⟩ := enterFence_keeps br.drainLend br
  exact portInOrder_restall now len (h.bounds.stay hstock fun _ => hin) (h.link.inService hin hnew hsignals)

theorem settle_inOrder {s : State} (ws : WindowId → Bool) (bs : BranchId → Bool) (hs : PartInOrder s) :
    PartInOrder (s.settle ws bs) := by
  refine ⟨fun b => ?_, by simpa using hs.trunk⟩
  rw [settle_branches, State.settle_porst]
  split
  case isTrue h =>
    have hdraining : s.branches[b].state = .draining := ((drained_iff s b).mp (Bool.and_eq_true_iff.mp h).2).1
    exact endDrain_inOrder _ _ (hs.ports b) (by rw [hdraining]; rfl)
  case isFalse => exact hs.ports b

theorem answerEntry_inOrder {s : State} (e : EntryId) (h : Held) (o : Bool) (st : ReplyStatus) (ws : List Word)
    (hs : PartInOrder s) : PartInOrder (s.answerEntry e h o st ws) := by
  unfold State.answerEntry
  exact settle_inOrder _ _ (inOrder_of_frame (ks := [.entries, .replyQ, .windows]) hs (by simp [sameBut_iff, State.uncountOne])
    (by decide))

/-! ## Records and answers -/

theorem recordFault_inOrder {s : State} (f : FaultRecord) (hs : PartInOrder s) : PartInOrder (s.recordFault f) :=
  inOrder_of_frame hs (recordFault_frame f s) (by decide)

theorem raiseInternal_inOrder {s : State} (k : Fin 8) (hs : PartInOrder s) : PartInOrder (s.raiseInternal k) :=
  inOrder_of_frame hs (raise_frame _ s) (by decide)

theorem complete_inOrder {s : State} (f : LongOp → Option ControlStatus) (hs : PartInOrder s) : PartInOrder (s.complete f) :=
  inOrder_of_frame hs (complete_frame s f) (by decide)

theorem answerNow_inOrder {s : State} (c : Control) (st : ControlStatus) {ws : List Word} (hs : PartInOrder s) :
    PartInOrder (s.answerNow c st ws) :=
  inOrder_of_frame hs (answerNow_frame s c st ws) (by decide)

theorem accept_inOrder {s : State} (c : Control) (op : LongOp) (hs : PartInOrder s) : PartInOrder (s.accept c op) :=
  inOrder_of_frame (ks := [.acc, .pcl]) hs (by simp [sameBut_iff]) (by decide)

/-! ## Loss of a branch -/

/-- The port after a loss, within any bounds on its capacity: it holds nothing (R82). -/
theorem lose_bounds {br : Branch} {st : BranchState} (hcapacity : br.capacity ≤ 8) (hst : st.inService = false) :
    PortBounds { br.lose with state := st } where
  queue := Nat.zero_le _
  credit := Nat.zero_le _
  capacity := hcapacity
  service hin := absurd (hst.symm.trans hin) (by decide)

/-- A port that holds nothing has no timer to run (R71). -/
theorem lose_timerOk (br : Branch) (st : BranchState) : TimerOk { br.lose with state := st } := rfl

/-- The link after a loss trains while the partner signal is present (R81). -/
theorem lose_link {held : Bool} {br : Branch} (hignore : br.ignorePartner = false) (hwait : br.partnerWait = none) :
    LinkAgrees held { br.lose with state := br.outOfService } := by
  unfold Branch.outOfService
  cases hp : br.partner with
  | true => exact (linkAgrees_iff_present (.inl rfl)).mpr ⟨hp, hignore, hwait⟩
  | false => exact linkAgrees_down rfl (hignore.trans hp.symm) hwait

theorem lossBy_self (s : State) (b : BranchId) (cause : LossCause) :
    (s.lossBy b cause).branches[b] = { s.branches[b].lose with state := s.branches[b].outOfService } := by
  simp [State.lossBy]

theorem lossBy_other (s : State) (b : BranchId) (cause : LossCause) : OtherBranches b s (s.lossBy b cause) := by
  intro c hc
  have hlose := lose_branch_other s b s.branches[b].outOfService c hc
  simpa [State.lossBy] using hlose

/-- A loss leaves the part in order when all but its branch is: of the port that is lost the capacity, the mark and the wait alone are
kept. -/
theorem lossBy_inOrder {s : State} {b : BranchId} (cause : LossCause) (hs : InOrderApart b s)
    (hcapacity : s.branches[b].capacity ≤ 8) (hignore : s.branches[b].ignorePartner = false)
    (hwait : s.branches[b].partnerWait = none) : PartInOrder (s.lossBy b cause) := by
  refine (hs.of_frame (lossBy_frame s b cause) (by decide) (lossBy_other s b cause)).with_port ?_
  rw [lossBy_self]
  exact ⟨lose_bounds hcapacity (outOfService_not_inService _), lose_timerOk _ _, lose_link hignore hwait⟩

/-- In service the mark is not set and no partner wait runs, so a loss leaves the part in order. -/
theorem lossBy_service_inOrder {s : State} {b : BranchId} (cause : LossCause) (hs : PartInOrder s)
    (hin : s.branches[b].state.inService = true) : PartInOrder (s.lossBy b cause) := by
  obtain ⟨hbounds, -, hlink⟩ := hs.ports b
  obtain ⟨-, hignore, hwait⟩ := (linkAgrees_iff_present (.inr hin)).mp hlink
  exact lossBy_inOrder cause (hs.apart b) hbounds.capacity hignore hwait

theorem sendReset_inOrder {s : State} (b : BranchId) (hs : PartInOrder s) :
    PartInOrder (s.setBranch b s.branches[b].sendReset) :=
  setBranch_lower_inOrder hs le_rfl le_rfl rfl rfl rfl

/-- A loss with the reset sequence sent (R72, R81). -/
theorem sendReset_lossBy_inOrder {s : State} {b : BranchId} (cause : LossCause) (hs : PartInOrder s)
    (hin : s.branches[b].state.inService = true) :
    PartInOrder (State.lossBy b cause (s.setBranch b s.branches[b].sendReset)) :=
  lossBy_service_inOrder cause (sendReset_inOrder b hs) (by rw [setBranch_self]; exact hin)

theorem branchCheckFails_inOrder {s : State} (b : BranchId) (hs : PartInOrder s) : PartInOrder (s.branchCheckFails b) := by
  unfold State.branchCheckFails
  split
  case isTrue hin => exact sendReset_lossBy_inOrder .check hs hin
  case isFalse => exact hs

/-! ## Trunk reset -/

/-- A trunk reset empties the queue and makes a DRAINING branch FENCED (R75, R102). -/
theorem branch_trunkReset_inOrder {held : Bool} {br : Branch} (now len : Time) (h : PortInOrder held br) :
    PortInOrder held (br.trunkReset.restall now len) := by
  obtain ⟨hbounds, -, hlink⟩ := h
  unfold Branch.trunkReset
  split
  case h_1 hdraining =>
    have hin : br.state.inService = true := by rw [hdraining]; rfl
    exact portInOrder_restall now len (hbounds.lower (Nat.zero_le _) le_rfl rfl fun _ => hin) (hlink.inService hin rfl rfl)
  all_goals exact portInOrder_restall now len (hbounds.lower (Nat.zero_le _) le_rfl rfl id) (hlink.same rfl rfl)

/-- A trunk that leaves UP trains while its partner signal is present (R162). -/
theorem trunkReset_inOrder {s : State} (sends : Bool) (hports : ∀ b : BranchId, PortInOrder s.porst s.branches[b])
    (hporst : s.porst = false) : PartInOrder (s.trunkReset sends) := by
  refine ⟨fun b => ?_, ?_⟩
  · rw [trunkReset_branches]
    have hheld : (s.trunkReset sends).porst = s.porst := by simp [State.trunkReset]
    rw [hheld]
    exact branch_trunkReset_inOrder _ _ (hports b)
  · simp only [State.trunkReset, State.countTrunkReset_porst, State.countTrunkReset_trunk, hporst]
    cases hp : s.trunk.partner <;> constructor <;> simp

/-- An UP trunk is out of power-on reset. -/
theorem porst_of_up {s : State} (hs : PartInOrder s) (hup : s.trunk.state = .up) : s.porst = false :=
  Bool.eq_false_iff.mpr fun hheld => TrunkState.noConfusion (hup.symm.trans (hs.trunk.held hheld))

theorem trunkReset_up_inOrder {s : State} (sends : Bool) (hs : PartInOrder s) (hup : s.trunk.state = .up) :
    PartInOrder (s.trunkReset sends) :=
  trunkReset_inOrder sends hs.ports (porst_of_up hs hup)

theorem trunkCheckFails_inOrder {s : State} (hs : PartInOrder s) : PartInOrder s.trunkCheckFails := by
  unfold State.trunkCheckFails
  split
  case isTrue hup => exact trunkReset_up_inOrder true hs hup
  case isFalse => exact hs

/-! ## CLEAR-PATH and power-on reset -/

theorem clearPath_inOrder {s : State} (hs : PartInOrder s) : PartInOrder s.clearPath := by
  unfold State.clearPath
  refine settle_inOrder _ _ ⟨fun b => ?_, hs.trunk⟩
  obtain ⟨hbounds, -, hlink⟩ := hs.ports b
  have hempty : PortInOrder s.porst
      (Branch.restall s.timeBase s.timing.stall { s.branches[b] with queue := [] }) :=
    portInOrder_restall _ _ (hbounds.lower (Nat.zero_le _) le_rfl rfl id) (hlink.same rfl rfl)
  simpa using hempty

theorem powerOn_inOrder (p : Bool) (ps : Vector Bool 6) (q : List Instr) : PartInOrder (State.powerOn p ps q) := by
  refine ⟨fun b => ?_, fun h => absurd rfl h, fun _ _ => rfl, fun _ => rfl⟩
  rw [powerOn_branches]
  exact ⟨⟨Nat.zero_le _, le_rfl, Nat.zero_le _, fun h => Bool.noConfusion h⟩, rfl,
    ⟨fun h => absurd h (by simp [Branch.powerOn, BranchState.inService]), fun h => Bool.noConfusion h,
      iff_of_false Bool.noConfusion BranchState.noConfusion, fun _ _ => .inr rfl⟩⟩

/-- A branch that leaves power-on reset trains when a signal is present that is not ignored (R78). -/
theorem branch_leaveReset_inOrder {held : Bool} {br : Branch} (h : PortInOrder held br) : PortInOrder false br.leaveReset := by
  obtain ⟨hbounds, htimer, hlink⟩ := h
  unfold Branch.leaveReset
  split
  case isTrue hstart =>
    simp only [Bool.and_eq_true, decide_eq_true_eq, Bool.not_eq_true'] at hstart
    obtain ⟨⟨hpartner, hdown⟩, hignore⟩ := hstart
    have hwait : br.partnerWait = none :=
      Option.not_isSome_iff_eq_none.mp fun hw => BranchState.noConfusion (hdown.symm.trans (hlink.wait.mp hw))
    refine ⟨hbounds.lower le_rfl le_rfl rfl fun hin => Bool.noConfusion hin, ?_,
      (linkAgrees_iff_present (.inl rfl)).mpr ⟨hpartner, hignore, hwait⟩⟩
    unfold TimerOk Branch.stalled at htimer ⊢
    rw [htimer, hdown]
    rfl
  case isFalse hstay =>
    refine ⟨hbounds, htimer, hlink.present, hlink.ignored, hlink.wait, fun hdown hpartner => .inl ?_⟩
    simpa [hdown, hpartner] using hstay

theorem trunk_leaveReset_inOrder {k : Trunk} (h : TrunkInOrder true k) : TrunkInOrder false k.leaveReset := by
  have hdown : k.state = .down := h.held rfl
  unfold Trunk.leaveReset
  cases hp : k.partner <;> constructor <;> simp [hp, hdown]

theorem leaveReset_inOrder {s : State} (hs : PartInOrder s) : Leaves PartInOrder (execLeavePowerOnReset s) := by
  refine leaves_next ?_
  split
  case isTrue hheld =>
    refine ⟨fun b => ?_, trunk_leaveReset_inOrder (hheld ▸ hs.trunk)⟩
    simpa using branch_leaveReset_inOrder (hs.ports b)
  case isFalse => exact hs

/-! ## The branch commands of the Control Unit -/

theorem fenceBranch_inOrder {s : State} (c : Control) (b : BranchId) (lend : Bool) (hs : PartInOrder s) :
    PartInOrder (s.fenceBranch c b lend) := by
  unfold State.fenceBranch
  dsimp only
  split
  case h_5 hactive =>
    have hin : s.branches[b].state.inService = true := by rw [hactive]; rfl
    split
    · exact answerNow_inOrder c .done (enterFence_inOrder lend hs hin)
    · split
      · exact answerNow_inOrder c .busy hs
      · exact accept_inOrder c _ (setBranch_service_inOrder hs hin rfl rfl rfl)
  case h_6 hfenced => exact answerNow_inOrder c .done (enterFence_inOrder lend hs (by rw [hfenced]; rfl))
  all_goals exact answerNow_inOrder c _ hs

theorem unfenceBranch_inOrder {s : State} (c : Control) (b : BranchId) (hs : PartInOrder s) :
    PartInOrder (s.unfenceBranch c b) := by
  unfold State.unfenceBranch
  dsimp only
  split
  case h_5 h =>
    exact answerNow_inOrder c .done
      (complete_inOrder _ (setBranch_service_inOrder hs (by rw [h]; rfl) rfl rfl rfl))
  case h_6 h => exact answerNow_inOrder c .done (setBranch_service_inOrder hs (by rw [h]; rfl) rfl rfl rfl)
  case h_7 h => exact answerNow_inOrder c .done (setBranch_service_inOrder hs (by rw [h]; rfl) rfl rfl rfl)
  all_goals exact answerNow_inOrder c _ hs

/-- The work of a reset leaves the other ports, and this one within its bounds (R97). -/
theorem resetWork_apart {s : State} (seq : BitVec 8) (b : BranchId) (hs : PartInOrder s) :
    InOrderApart b (s.resetWork seq b) ∧ PortBounds (s.resetWork seq b).branches[b] := by
  unfold State.resetWork
  dsimp only
  split
  · refine ⟨?_, ?_⟩
    · refine (hs.apart b).of_frame (ks := lossBlocks) ?_ (by decide) fun c hc => ?_
      · simp [sameBut_iff, lossBlocks, entryAnswerBlocks, completionBlocks, attentionBlocks]
      · simpa using lose_branch_other (s.complete (abortFence b)) b .resetting c hc
    · simpa using lose_bounds (st := .resetting) (hs.ports b).bounds.capacity rfl
  · exact ⟨(complete_inOrder _ hs).apart b, (hs.ports b).bounds⟩

/-- A reset begins: RESETTING with the partner wait running and no mark (R97, R99). -/
theorem beginReset_link (held : Bool) (now : Time) (br : Branch) : LinkAgrees held (br.beginReset now) :=
  ⟨fun h => absurd h (by simp [Branch.beginReset, BranchState.inService]), fun h => Bool.noConfusion h,
    iff_of_true rfl rfl, fun h => BranchState.noConfusion h⟩

theorem resetBranch_inOrder {s : State} (c : Control) (b : BranchId) (hs : PartInOrder s) : PartInOrder (s.resetBranch c b) := by
  unfold State.resetBranch
  split
  · exact answerNow_inOrder c .already hs
  · split
    · exact answerNow_inOrder c .busy hs
    · obtain ⟨hapart, hbounds⟩ := resetWork_apart c.seq b hs
      exact accept_inOrder c _ (hapart.setBranch (hbounds.lower le_rfl le_rfl rfl fun hin => Bool.noConfusion hin)
        (beginReset_link _ _ _))

end Sys2Proof.Machine
end

section
/-! Every command keeps the ports and the links in order. -/

namespace Sys2Proof.Machine

open Sys2Proof.Safety

/-! ## Frames received -/

theorem matchedReply_inOrder {s : State} (b : BranchId) (e : EntryId) (h : Held) (st : ReplyStatus) (data : List Word)
    (hs : PartInOrder s) : PartInOrder (s.matchedReply b e h st data) := by
  unfold State.matchedReply
  split
  · split
    · exact answerEntry_inOrder e h false .ok data hs
    · exact recordFault_inOrder _ (answerEntry_inOrder e h false .targetError [] hs)
  · exact answerEntry_inOrder e h false st [] hs

theorem replyTo_inOrder {s : State} (b : BranchId) (e : EntryId) (st : ReplyStatus) (data : List Word) (hs : PartInOrder s) :
    PartInOrder (s.replyTo b e st data) := by
  have hstray (k : BitVec 6) : PartInOrder (s.strayReply b k) := recordFault_inOrder _ hs
  have hlate (x : Entry) : PartInOrder (s.setEntry e x).countLate :=
    inOrder_of_frame (ks := .entries :: attentionBlocks) hs (by simp [sameBut_iff, attentionBlocks]) (by decide)
  unfold State.replyTo
  dsimp only
  split
  case h_1 =>
    split
    · exact matchedReply_inOrder b e _ st data hs
    · exact hstray _
  case h_2 =>
    split
    · exact hlate _
    · exact hstray _
  case h_3 =>
    split
    · exact hlate _
    · exact hstray _
  all_goals exact hstray _

theorem takeReply_inOrder {s : State} (b : BranchId) (t : BitVec 6) (st : ReplyStatus) (data : List Word) (hs : PartInOrder s) :
    PartInOrder (s.takeReply b t st data) := by
  unfold State.takeReply
  split
  · split
    · exact replyTo_inOrder b _ st data hs
    · exact recordFault_inOrder _ hs
  · exact hs

/-- A CREDIT fills up to the capacity at most (R66). -/
theorem takeCredit_inOrder {s : State} (b : BranchId) (n : Nat) (hs : PartInOrder s) : PartInOrder (s.takeCredit b n) := by
  obtain ⟨hbounds, -, hlink⟩ := hs.ports b
  have hfill {k : Nat} (hk : k ≤ s.branches[b].capacity) : PartInOrder (s.setBranch b { s.branches[b] with credit := k }) :=
    setBranch_inOrder hs ⟨hbounds.queue, hk, hbounds.capacity, hbounds.service⟩ (hlink.same rfl rfl)
  unfold State.takeCredit
  dsimp only
  split
  · split
    case isTrue hfits => exact hfill hfits
    case isFalse => exact recordFault_inOrder _ (hfill le_rfl)
  · exact hs

theorem takeWithdraw_inOrder {s : State} (b : BranchId) (hs : PartInOrder s) : PartInOrder (s.takeWithdraw b) := by
  unfold State.takeWithdraw
  split
  case h_1 | h_2 | h_3 => exact raiseInternal_inOrder 3 (setBranch_lower_inOrder hs le_rfl le_rfl rfl rfl rfl)
  case h_4 => exact recordFault_inOrder _ hs
  all_goals exact hs

theorem takeReturn_inOrder {s : State} (b : BranchId) (hs : PartInOrder s) : PartInOrder (s.takeReturn b) := by
  unfold State.takeReturn
  split
  case h_1 hlent => exact raiseInternal_inOrder 4 (setBranch_service_inOrder hs (by rw [hlent]; rfl) rfl rfl rfl)
  case h_2 | h_3 | h_4 => exact recordFault_inOrder _ hs
  all_goals exact hs

theorem takeAck_inOrder {s : State} (v : BitVec 8) (hs : PartInOrder s) : PartInOrder (s.takeAck v) := by
  unfold State.takeAck
  split
  · exact hs
  · split
    · have htaken (ds : List Delivery) (n : LineId) (ln : Line) : PartInOrder ({ s with deliveries := ds }.setLine n ln) :=
        inOrder_of_frame (ks := [.deliveries, .lines]) hs (by simp [sameBut_iff]) (by decide)
      unfold State.acknowledge State.markRelease
      split
      · split
        · exact setBranch_lower_inOrder (htaken _ _ _) le_rfl le_rfl rfl rfl rfl
        · exact htaken _ _ _
      · exact htaken _ _ _
    · exact inOrder_of_frame (ks := attentionBlocks) hs (by simp [sameBut_iff, attentionBlocks]) (by decide)

/-! ## The trunk -/

theorem trunk_inOrder {s : State} {k : Trunk} (hs : PartInOrder s) (hk : TrunkInOrder s.porst k) :
    PartInOrder { s with trunk := k } :=
  ⟨hs.ports, hk⟩

theorem TrunkInOrder.same {held : Bool} {k k' : Trunk} (h : TrunkInOrder held k) (hstate : k'.state = k.state)
    (hpartner : k'.partner = k.partner) : TrunkInOrder held k' where
  present := by rw [hstate, hpartner]; exact h.present
  down := by rw [hstate, hpartner]; exact h.down
  held := by rw [hstate]; exact h.held

theorem transmit_inOrder {s : State} (f : TrunkFrame) (p : Source) (hs : PartInOrder s) : PartInOrder (s.transmit f p) :=
  trunk_inOrder hs (hs.trunk.same rfl rfl)

/-- A signal that appears starts training out of power-on reset (R157, R162). -/
theorem trunkPartnerAppears_inOrder {s : State} (hs : PartInOrder s) : Leaves PartInOrder (execTrunkPartnerAppears s) := by
  refine leaves_next (trunk_inOrder hs ⟨fun _ => rfl, fun hdown _ => ?_, fun hheld => ?_⟩)
  · by_contra hporst
    by_cases hold : s.trunk.state = .down
    · simp [hold, hporst] at hdown
    · simp [hold] at hdown
  · simpa [hheld] using hs.trunk.held hheld

theorem trunkUp_inOrder {s : State} (hs : PartInOrder s) (htraining : s.trunk.state = .training) : PartInOrder s.trunkUp := by
  have hup (n : Nat) (r : Bool) : PartInOrder { s with trunk := { s.trunk with state := .up, restored := r }, acc := n } := by
    refine ⟨hs.ports, fun _ => hs.trunk.present (by rw [htraining]; decide), fun h => TrunkState.noConfusion h, fun hheld => ?_⟩
    exact TrunkState.noConfusion (htraining.symm.trans (hs.trunk.held hheld))
  unfold State.trunkUp
  dsimp only
  split
  · exact raiseInternal_inOrder 7 (hup _ _)
  · exact hup _ _

theorem trunkPartnerLost_inOrder {s : State} (hs : PartInOrder s) : Leaves PartInOrder (execTrunkPartnerLost s) := by
  have hdown (k : Trunk) (hstate : k.state = .down) (hpartner : k.partner = false) : PartInOrder { s with trunk := k } :=
    trunk_inOrder hs ⟨fun h => absurd hstate h, fun _ h => absurd (hpartner.symm.trans h) (by decide), fun _ => hstate⟩
  refine leaves_next ?_
  split
  case h_1 hup =>
    have hporst : s.porst = false := porst_of_up hs hup
    exact trunkReset_inOrder false hs.ports hporst
  all_goals exact hdown _ rfl rfl

/-! ## Routing -/

/-- An item routed is appended to a queue with room (R58, R136). -/
theorem append_inOrder {s : State} {b : BranchId} (i : Item) (hs : PartInOrder s)
    (hroom : s.branches[b].queue.length < Config.queueCapacity) : PartInOrder (s.append b i) := by
  obtain ⟨hbounds, -, hlink⟩ := hs.ports b
  refine setBranch_inOrder hs ⟨?_, hbounds.credit, hbounds.capacity, hbounds.service⟩ (hlink.same rfl rfl)
  rw [List.length_append]
  exact hroom

theorem routeVia_inOrder {s : State} {r : Request} {w : WindowId} (hs : PartInOrder s)
    (hroom : s.branches[s.windows[w].branch].queue.length < Config.queueCapacity) : PartInOrder (s.routeVia r w) := by
  have hcounted {u : State} (hu : PartInOrder u) : PartInOrder (State.returnCredit (u.countIn w)) :=
    inOrder_of_frame (ks := [.acc, .windows]) hu (by simp [sameBut_iff, State.countIn]) (by decide)
  unfold State.routeVia
  dsimp only
  split
  case h_1 op e _ _ =>
    have hentry (x : Entry) : PartInOrder (s.setEntry e x) := ⟨hs.ports, hs.trunk⟩
    exact hcounted (append_inOrder _ (hentry _) hroom)
  case h_2 => exact hs
  case h_3 => exact hcounted (append_inOrder _ hs hroom)

theorem routeExamination_inOrder {s : State} (hs : PartInOrder s) : Leaves PartInOrder (execRouteExamination s) := by
  have htaken (rest : List IntakeFrame) : PartInOrder { s with intake := rest } := ⟨hs.ports, hs.trunk⟩
  unfold execRouteExamination
  split
  · apply leaves_next
    split
    case h_1 => exact inOrder_of_frame (htaken _) (refuse_frame _ _ _ _) (by decide)
    case h_2 => exact inOrder_of_frame (htaken _) (discardDuplicate_frame _ _) (by decide)
    case h_3 => exact hs
    case h_4 hroute =>
      obtain ⟨-, -, -, -, hroom⟩ := examine_route hroute
      exact routeVia_inOrder (htaken _) (of_decide_eq_true (Bool.and_eq_true_iff.mp hroom).1)
  · exact leaves_fault

/-! ## The branch links -/

/-- A signal that appears starts training in DOWN, unless it is ignored or the part is held in reset (R78, R98). -/
theorem branchPartnerAppears_inOrder {s : State} (b : BranchId) (hs : PartInOrder s) :
    Leaves PartInOrder (execBranchPartnerAppears b s) := by
  obtain ⟨hbounds, -, hlink⟩ := hs.ports b
  refine leaves_next ?_
  by_cases hstart : s.branches[b].state = .down ∧ s.branches[b].ignorePartner = false ∧ s.porst = false
  · obtain ⟨hdown, hignore, -⟩ := id hstart
    have hwait : s.branches[b].partnerWait = none :=
      Option.not_isSome_iff_eq_none.mp fun hw => BranchState.noConfusion (hdown.symm.trans (hlink.wait.mp hw))
    rw [if_pos hstart]
    exact setBranch_inOrder hs (hbounds.stay rfl fun hin => Bool.noConfusion hin)
      ((linkAgrees_iff_present (.inl rfl)).mpr ⟨rfl, hignore, hwait⟩)
  · rw [if_neg hstart]
    refine setBranch_inOrder hs (hbounds.stay rfl id)
      ⟨fun _ => rfl, fun hi => ⟨(hlink.ignored hi).1, rfl⟩, hlink.wait, fun hdown _ => ?_⟩
    by_contra hc
    simp only [not_or, Bool.not_eq_true] at hc
    exact hstart ⟨hdown, hc.1, hc.2⟩

theorem takenCapacity_bounds {c : BitVec 4} (hc : c ≠ 0) : 1 ≤ takenCapacity c ∧ takenCapacity c ≤ 8 := by
  have hpos : c.toNat ≠ 0 := fun h => hc (BitVec.eq_of_toNat_eq h)
  unfold takenCapacity
  omega

/-- A branch comes into service with a capacity of 1 to 8 and its signal present (R79, R99). -/
theorem enterService_inOrder {s : State} {b : BranchId} {n : Nat} (hs : PartInOrder s) (hn : 1 ≤ n ∧ n ≤ 8)
    (hpartner : s.branches[b].partner = true) (hstate : s.branches[b].state ≠ .down) :
    PartInOrder (s.setBranch b (s.branches[b].enterService n)) := by
  obtain ⟨hbounds, -, hlink⟩ := hs.ports b
  refine setBranch_inOrder hs ⟨hbounds.queue, le_rfl, hn.2, fun _ => hn.1⟩ ?_
  have hignore : s.branches[b].ignorePartner = false := Bool.eq_false_iff.mpr fun hi => hstate (hlink.ignored hi).1
  exact (linkAgrees_iff_present (.inr rfl)).mpr ⟨hpartner, hignore, rfl⟩

theorem branchTrained_inOrder {s : State} {b : BranchId} {n : Nat} (hs : PartInOrder s) (hn : 1 ≤ n ∧ n ≤ 8)
    (hpartner : s.branches[b].partner = true) : PartInOrder (s.branchTrained b n) := by
  unfold State.branchTrained
  dsimp only
  split
  case h_1 h => exact raiseInternal_inOrder 2 (enterService_inOrder hs hn hpartner (by rw [h]; decide))
  case h_2 h => exact raiseInternal_inOrder 2 (complete_inOrder _ (enterService_inOrder hs hn hpartner (by rw [h]; decide)))
  all_goals exact hs

/-- A lost signal is a loss in service; otherwise the link goes to DOWN from TRAINING and keeps its state (R78, R80, R81, R98). -/
theorem branchPartnerLost_inOrder {s : State} (b : BranchId) (hs : PartInOrder s) :
    Leaves PartInOrder (execBranchPartnerLost b s) := by
  obtain ⟨hbounds, -, hlink⟩ := hs.ports b
  refine leaves_next ?_
  split
  case isTrue hin =>
    obtain ⟨-, -, hwait⟩ := (linkAgrees_iff_present (.inr hin)).mp hlink
    have hapart := (hs.apart b).of_frame (setBranch_frame s b _) (by decide) (setBranch_other s b
      { s.branches[b] with
        partner := false, ignorePartner := false
        state := if s.branches[b].state = .training then .down else s.branches[b].state })
    exact lossBy_inOrder .signalLost hapart (by rw [setBranch_self]; exact hbounds.capacity) (by rw [setBranch_self]; rfl)
      (by rw [setBranch_self]; exact hwait)
  case isFalse hout =>
    by_cases htraining : s.branches[b].state = .training
    · obtain ⟨-, -, hwait⟩ := (linkAgrees_iff_present (.inl htraining)).mp hlink
      rw [if_pos htraining]
      exact setBranch_inOrder hs (hbounds.stay rfl fun hin => Bool.noConfusion hin) (linkAgrees_down rfl rfl hwait)
    · rw [if_neg htraining]
      exact setBranch_inOrder hs (hbounds.stay rfl id)
        ⟨fun h => absurd h (not_or.mpr ⟨htraining, hout⟩), fun h => Bool.noConfusion h, hlink.wait,
          fun _ h => Bool.noConfusion h⟩

theorem partnerWaitExpiry_inOrder {s : State} (b : BranchId) (hs : PartInOrder s) :
    Leaves PartInOrder (execPartnerWaitExpiry b s) :=
  leaves_guard fun _ => complete_inOrder _ (setBranch_inOrder hs
    ((hs.ports b).bounds.stay rfl fun hin => Bool.noConfusion hin) (linkAgrees_down rfl rfl rfl))

/-- The stall timer runs in service alone (R71). -/
theorem inService_of_waitDue {s : State} {b : BranchId} (hs : PartInOrder s)
    (hdue : waitDue s.branches[b].stallTimer s.timeBase = true) : s.branches[b].state.inService = true := by
  have hruns : s.branches[b].stallTimer.isSome = true := by
    cases hw : s.branches[b].stallTimer with
    | none => rw [hw] at hdue; cases hdue
    | some d => rfl
  have hissues : s.branches[b].state.issues = true :=
    (Bool.and_eq_true_iff.mp ((hs.ports b).timer.symm.trans hruns)).2
  exact inService_of_issues hissues

/-! ## Sends -/

/-- A port that issues its head item has no more items and credit than before (R61, R65). -/
theorem issue_inOrder {s : State} {b : BranchId} (f : BranchFrame) (hs : PartInOrder s) :
    PartInOrder (s.setBranch b (s.branches[b].issue f)) :=
  setBranch_lower_inOrder hs (by simp [Branch.issue]) (Nat.sub_le _ _) rfl rfl rfl

theorem sendRelease_inOrder {s : State} (b : BranchId) (hs : PartInOrder s) : Leaves PartInOrder (execSendRelease b s) := by
  unfold execSendRelease
  dsimp only
  split
  · exact leaves_next (setBranch_lower_inOrder hs le_rfl le_rfl rfl rfl rfl)
  · exact leaves_fault

theorem issueNonPosted_inOrder {s : State} (b : BranchId) (hs : PartInOrder s) :
    Leaves PartInOrder (execIssueNonPosted b s) := by
  have hentry (e : EntryId) (x : Entry) : PartInOrder (s.setEntry e x) := ⟨hs.ports, hs.trunk⟩
  unfold execIssueNonPosted
  split
  · split
    · exact leaves_next (issue_inOrder (b := b) _ (hentry _ _))
    all_goals exact leaves_fault
  · exact leaves_fault

theorem issuePosted_inOrder {s : State} (b : BranchId) (hs : PartInOrder s) : Leaves PartInOrder (execIssuePosted b s) := by
  have huncounted {u : State} (w : WindowId) (hu : PartInOrder u) : PartInOrder (u.uncountOne w) :=
    inOrder_of_frame (ks := [.windows]) hu (by simp [sameBut_iff]) (by decide)
  unfold execIssuePosted
  split
  · exact leaves_next (settle_inOrder _ _ (huncounted _ (issue_inOrder _ hs)))
  · exact leaves_fault

theorem sendReply_inOrder {s : State} (hs : PartInOrder s) : Leaves PartInOrder (execSendReply s) := by
  unfold execSendReply
  split
  case h_1 r rest _ _ =>
    have htaken : PartInOrder { s with replyQ := rest } := ⟨hs.ports, hs.trunk⟩
    refine leaves_next (inOrder_of_frame (ks := [.entries, .acc]) (transmit_inOrder r.frame .notice htaken) ?_ (by decide))
    unfold State.replySent
    split <;> simp [sameBut_iff]
  case h_2 => exact leaves_fault

theorem sendControlReply_inOrder {s : State} (hs : PartInOrder s) : Leaves PartInOrder (execSendControlReply s) := by
  unfold execSendControlReply
  split
  case h_1 c rest _ _ =>
    have htaken : PartInOrder { s with ctlQ := rest } := ⟨hs.ports, hs.trunk⟩
    refine leaves_next (inOrder_of_frame (ks := [.acc]) (transmit_inOrder c.frame .reply htaken) ?_ (by decide))
    unfold State.controlSent
    split <;> simp [sameBut_iff]
  case h_2 => exact leaves_fault

theorem sendNotice_inOrder {s : State} (hs : PartInOrder s) : Leaves PartInOrder (execSendNotice s) := by
  have htaken (ds : List Delivery) (f : TrunkFrame) : PartInOrder (State.transmit f .control { s with deliveries := ds }) :=
    transmit_inOrder (s := { s with deliveries := ds }) f .control ⟨hs.ports, hs.trunk⟩
  have hcounted {u : State} (hu : PartInOrder u) : PartInOrder u.countResend :=
    inOrder_of_frame (ks := attentionBlocks) hu (by simp [sameBut_iff, attentionBlocks]) (by decide)
  unfold execSendNotice
  split
  · apply leaves_next
    split
    · exact hcounted (htaken _ _)
    · exact htaken _ _
  · exact leaves_fault

theorem sendCredit_inOrder {s : State} (hs : PartInOrder s) : Leaves PartInOrder (execSendCredit s) := by
  unfold execSendCredit
  split
  · exact leaves_next (transmit_inOrder (s := { s with acc := 0 }) _ _ ⟨hs.ports, hs.trunk⟩)
  · exact leaves_fault

/-! ## Every command -/

/-- A control command whose run keeps the order keeps it. -/
theorem command_inOrder {α : Type} {isRow : Nat → Bool} {operands : Control → Option α} {run : Control → α → State → State}
    {s : State} (hs : PartInOrder s) (hrun : ∀ (c : Control) (a : α) (u : State), PartInOrder u → PartInOrder (run c a u)) :
    Leaves PartInOrder (takeControl isRow (fun c => withOperands (operands c) c (run c)) s) :=
  leaves_command partInOrder_readsOnly (by decide) (by decide) hs fun c a u _ hu => hrun c a u hu

/-- Every command keeps the ports and the links in order. -/
theorem exec_inOrder (c : Instr) {s : State} (hs : PartInOrder s) : Leaves PartInOrder (exec c s) := by
  by_cases hw : ∀ k ∈ [Block.porst, .branches, .trunk], k ∉ writes c
  · exact exec_keeps_of_frame partInOrder_readsOnly hs hw
  cases c <;> simp only [exec]
  case powerOnReset => exact leaves_next (powerOn_inOrder _ _ _)
  case leavePowerOnReset => exact leaveReset_inOrder hs
  case trunkPartnerAppears => exact trunkPartnerAppears_inOrder hs
  case trunkTrainingComplete =>
    refine leaves_next ?_
    split
    case isTrue htraining => exact trunkUp_inOrder hs htraining
    case isFalse => exact hs
  case trunkCheckFailure => exact leaves_next (trunkCheckFails_inOrder hs)
  case trunkResetSequenceReceived =>
    refine leaves_next ?_
    split
    case isTrue hup => exact trunkReset_up_inOrder false hs hup
    case isFalse => exact hs
  case trunkPartnerLost => exact trunkPartnerLost_inOrder hs
  case intakeArrival f =>
    exact leaves_takeFrame (inOrder_of_frame hs (arrive_frame _ s) (by decide)) (trunkCheckFails_inOrder hs)
  case noticeAck f => exact leaves_takeFrame (takeAck_inOrder _ hs) (trunkCheckFails_inOrder hs)
  case trunkCreditReceived f => exact leaves_takeFrame hs (trunkCheckFails_inOrder hs)
  case trunkUnexpectedFrame f =>
    exact leaves_takeFrame (inOrder_of_frame hs (trunkUnexpected_frame _ s) (by decide)) (trunkCheckFails_inOrder hs)
  case trunkFrameSent => exact leaves_next (trunk_inOrder hs (hs.trunk.same rfl rfl))
  case sendReply => exact sendReply_inOrder hs
  case sendControlReply => exact sendControlReply_inOrder hs
  case sendNotice => exact sendNotice_inOrder hs
  case sendCredit => exact sendCredit_inOrder hs
  case routeExamination => exact routeExamination_inOrder hs
  case fenceBranch => exact command_inOrder hs fun c o u hu => fenceBranch_inOrder c o.1 o.2 hu
  case unfenceBranch => exact command_inOrder hs fun c b u hu => unfenceBranch_inOrder c b hu
  case resetBranch => exact command_inOrder hs fun c b u hu => resetBranch_inOrder c b hu
  case clearPath => exact command_inOrder hs fun c _ u hu => answerNow_inOrder c _ (clearPath_inOrder hu)
  case branchPartnerAppears b => exact branchPartnerAppears_inOrder b hs
  case branchTrainingComplete b capacity =>
    refine leaves_next ?_
    split
    case isTrue => exact hs
    case isFalse h =>
      obtain ⟨hcapacity, hpartner⟩ := not_or.mp h
      exact branchTrained_inOrder hs (takenCapacity_bounds hcapacity) (by simpa using hpartner)
  case branchPartnerLost b => exact branchPartnerLost_inOrder b hs
  case branchCheckFailure b => exact leaves_next (branchCheckFails_inOrder b hs)
  case branchResetSequenceReceived b =>
    refine leaves_next ?_
    split
    case isTrue hin => exact lossBy_service_inOrder .partnerReset hs hin
    case isFalse => exact hs
  case stallTimerExpiry b =>
    exact leaves_guard fun hdue => sendReset_lossBy_inOrder .stall hs (inService_of_waitDue hs hdue)
  case partnerWaitExpiry b => exact partnerWaitExpiry_inOrder b hs
  case branchReply b f => exact leaves_takeFrame (takeReply_inOrder b _ _ _ hs) (branchCheckFails_inOrder b hs)
  case branchCredit b f => exact leaves_takeFrame (takeCredit_inOrder b _ hs) (branchCheckFails_inOrder b hs)
  case branchNotice b f =>
    exact leaves_takeFrame (inOrder_of_frame hs (takeNotice_frame b _ s) (by decide)) (branchCheckFails_inOrder b hs)
  case withdraw b f => exact leaves_takeFrame (takeWithdraw_inOrder b hs) (branchCheckFails_inOrder b hs)
  case unitReturn b f => exact leaves_takeFrame (takeReturn_inOrder b hs) (branchCheckFails_inOrder b hs)
  case branchUnexpectedFrame b f =>
    exact leaves_takeFrame (inOrder_of_frame hs (branchUnexpected_frame b _ s) (by decide)) (branchCheckFails_inOrder b hs)
  case branchFrameSent b => exact leaves_next (setBranch_lower_inOrder hs le_rfl le_rfl rfl rfl rfl)
  case sendGrant b => exact leaves_guard fun _ => setBranch_lower_inOrder hs le_rfl le_rfl rfl rfl rfl
  case sendReclaim b => exact leaves_guard fun _ => setBranch_lower_inOrder hs le_rfl le_rfl rfl rfl rfl
  case sendRelease b => exact sendRelease_inOrder b hs
  case issueNonPosted b => exact issueNonPosted_inOrder b hs
  case issuePosted b => exact issuePosted_inOrder b hs
  case requestDeadlineExpiry e =>
    unfold execRequestDeadlineExpiry
    split
    case h_1 => exact leaves_guard fun _ => answerEntry_inOrder e _ true .timeout [] hs
    all_goals exact leaves_fault
  case drainComplete b => exact leaves_next (settle_inOrder _ _ hs)
  case retireComplete w => exact leaves_next (settle_inOrder _ _ hs)
  all_goals simp [writes, controlAnswerBlocks] at hw

/-- Settles O53: a port is written within its bounds with its timer restalled, and its link and the trunk's change with their signals. -/
theorem invariantPortsAndLinks : Obligations.InvariantPortsAndLinks := by
  intro s t hports hlinks h
  have hs : PartInOrder s := (partInOrder_iff s).mpr ⟨hports, hlinks⟩
  exact (partInOrder_iff t).mp (step_keeps partInOrder_readsOnly (by decide) (fun c _ => exec_inOrder c) hs t h)

end Sys2Proof.Machine
end

section
/-! Loss of a branch (R72, R81 to R85): its four causes are one loss of the port as the cause leaves it. -/

namespace Sys2Proof.Machine

open Sys2Proof.Safety

/-! ## What a loss reads -/

/-- The part before a loss of branch `b`: `s` with that port written, its queue as it was. -/
structure PortWritten (b : BranchId) (s u : State) : Prop where
  frame : SameBut [.branches] s u
  other : OtherBranches b s u
  queue : u.branches[b].queue = s.branches[b].queue

theorem PortWritten.refl (b : BranchId) (s : State) : PortWritten b s s := ⟨sameBut_refl _ s, fun _ _ => rfl, rfl⟩

theorem setBranch_portWritten {s : State} {b : BranchId} {br : Branch} (h : br.queue = s.branches[b].queue) :
    PortWritten b s (s.setBranch b br) :=
  ⟨setBranch_frame s b br, setBranch_other s b br, by rw [setBranch_self]; exact h⟩

section
variable {b : BranchId} {s u : State}

/-- The queues are as they were. -/
theorem PortWritten.queues (h : PortWritten b s u) (c : BranchId) : u.branches[c].queue = s.branches[c].queue := by
  by_cases hc : c = b
  · rw [hc]
    exact h.queue
  · rw [h.other c hc]

theorem PortWritten.entries (h : PortWritten b s u) : u.entries = s.entries := h.frame.1 .entries (by decide)

theorem PortWritten.windows (h : PortWritten b s u) : u.windows = s.windows := h.frame.1 .windows (by decide)

theorem PortWritten.workVia (h : PortWritten b s u) (p : BranchId → Bool) (w : WindowId) : u.workVia p w = s.workVia p w := by
  simp only [workVia_eq_sum, h.entries, h.queues]

theorem PortWritten.retiredByLoss (h : PortWritten b s u) : Safety.retiredByLoss u b = Safety.retiredByLoss s b := by
  funext w
  simp only [Safety.retiredByLoss, h.workVia, h.windows]

theorem PortWritten.lossCompletes (h : PortWritten b s u) : Safety.lossCompletes u b = Safety.lossCompletes s b := by
  funext op
  cases op with
  | retire w => simp only [Safety.lossCompletes, h.retiredByLoss]
  | fence c => rfl
  | reset c => rfl

/-! ## What a loss leaves -/

/-- The entries, the Replies and the windows after a loss, as on the part before the port was written (R39, R82). -/
theorem lossBy_settles (h : PortWritten b s u) (cause : LossCause) : LossSettles b s (u.lossBy b cause) := by
  have hreplies : u.replyQ = s.replyQ := h.frame.1 .replyQ (by decide)
  refine ⟨fun e => ?_, ?_, fun w => ?_⟩
  · have hentry : (u.lossBy b cause).entries[e] = s.entries[e].lose b := by
      simpa [State.lossBy, h.entries] using lose_entries u b u.branches[b].outOfService e
    rw [hentry]
    rfl
  · simp [State.lossBy, State.owed, hreplies, h.entries]
  · have hwindow := lose_windows u b u.branches[b].outOfService w
    rw [h.retiredByLoss, h.windows, h.workVia] at hwindow
    simpa [State.lossBy] using hwindow

/-- The retires and the fence that a loss ends (R84). -/
theorem lossBy_completes (h : PortWritten b s u) (cause : LossCause) :
    (u.lossBy b cause).pcl = (s.complete (lossCompletes s b)).pcl ∧
    (u.lossBy b cause).ctlQ = (s.complete (lossCompletes s b)).ctlQ := by
  have hpcl : u.pcl = s.pcl := h.frame.1 .pcl (by decide)
  have hctl : u.ctlQ = s.ctlQ := h.frame.1 .ctlQ (by decide)
  have hlose := lose_completes u b u.branches[b].outOfService
  have hsame := complete_congr (fun op => congrFun h.lossCompletes op) hpcl hctl
  exact ⟨by simpa [State.lossBy] using hlose.1.trans hsame.1, by simpa [State.lossBy] using hlose.2.trans hsame.2⟩

/-- The lines, the raise of I1 and the record of a loss (R83, R85). -/
theorem lossBy_attention (h : PortWritten b s u) (cause : LossCause) :
    AttentionOf ((State.raiseInternal 1 { s with lines := lostLines s b }).recordFault
      { kind := .branchLost, timestamp := s.timeBase, branch := some b, cause := some (.loss cause),
        count := some (s.branches[b].queue.countP Item.isPosted) }) (u.lossBy b cause) := by
  have hlines : u.lines = s.lines := h.frame.1 .lines (by decide)
  have hfaults : u.faults = s.faults := h.frame.1 .faults (by decide)
  have hcounters : u.counters = s.counters := h.frame.1 .counters (by decide)
  have htime : u.timeBase = s.timeBase := h.frame.1 .timeBase (by decide)
  have hrecord : u.lossRecord b cause =
      { kind := .branchLost, timestamp := s.timeBase, branch := some b, cause := some (.loss cause),
        count := some (s.branches[b].queue.countP Item.isPosted) } := by
    rw [State.lossRecord, State.postedHeld, h.queue, htime]
  have hlost : lostLines u b = lostLines s b := by rw [lostLines, lostLines, hlines]
  unfold State.lossBy
  rw [hrecord]
  refine attention_recordFault _ (attention_raiseInternal 1 ⟨?_, ?_, ?_⟩)
  · exact (State.lose_faults u b _).trans hfaults
  · exact (lose_lines u b _).trans hlost
  · exact (State.lose_counters u b _).trans hcounters

/-- A loss writes what the loss of a branch writes, and no other port (R82). -/
theorem lossBy_written (h : PortWritten b s u) (cause : LossCause) :
    OtherBranches b s (u.lossBy b cause) ∧ SameBut lossBlocks s (u.lossBy b cause) :=
  ⟨fun c hc => (lossBy_other u b cause c hc).trans (h.other c hc),
    sameBut_trans h.frame (lossBy_frame u b cause) (by decide) (List.Subset.refl _)⟩

end

/-! ## The four causes -/

/-- The port `br` as the cause of its loss leaves it, the fields that a loss clears apart: the signal lost and no longer ignored, or the
reset sequence sent, and the state by the signal (R72, R81). -/
def Branch.lostBy (cause : LossCause) (br : Branch) : Branch :=
  let present : Bool := if cause = .signalLost then false else br.partner
  { br with
    state := if present = true then .training else .down
    partner := present
    ignorePartner := if cause = .signalLost then false else br.ignorePartner
    resetSeqs := if cause = .check ∨ cause = .stall then br.resetSeqs + 1 else br.resetSeqs }

section
variable {b : BranchId} {s : State}

theorem exec_branchPartnerLost (h : s.branches[b].state.inService = true) :
    exec (.branchPartnerLost b) s = .next (State.lossBy b .signalLost (s.setBranch b { s.branches[b] with
      partner := false, ignorePartner := false
      state := if s.branches[b].state = .training then .down else s.branches[b].state })) := by
  show execBranchPartnerLost b s = _
  simp only [execBranchPartnerLost, if_pos h]

theorem exec_branchCheckFailure (h : s.branches[b].state.inService = true) :
    exec (.branchCheckFailure b) s = .next (State.lossBy b .check (s.setBranch b s.branches[b].sendReset)) := by
  show execBranchCheckFailure b s = _
  rw [execBranchCheckFailure, State.branchCheckFails, if_pos h]

theorem exec_branchResetSequenceReceived (h : s.branches[b].state.inService = true) :
    exec (.branchResetSequenceReceived b) s = .next (s.lossBy b .partnerReset) := by
  show execBranchResetSequenceReceived b s = _
  rw [execBranchResetSequenceReceived, if_pos h]

theorem exec_stallTimerExpiry {deadline : Time} (hrun : s.branches[b].stallTimer = some deadline)
    (hdue : reached deadline s.timeBase = true) :
    exec (.stallTimerExpiry b) s = .next (State.lossBy b .stall (s.setBranch b s.branches[b].sendReset)) := by
  show execStallTimerExpiry b s = _
  rw [execStallTimerExpiry, hrun]
  exact if_pos hdue

/-- Each cause writes the port, its queue as it was, and takes the one loss of it. -/
theorem exec_loss {c : Instr} {cause : LossCause} (hin : s.branches[b].state.inService = true)
    (hcause : (c = .branchPartnerLost b ∧ cause = .signalLost) ∨ (c = .branchCheckFailure b ∧ cause = .check) ∨
      (c = .branchResetSequenceReceived b ∧ cause = .partnerReset) ∨
      (c = .stallTimerExpiry b ∧ cause = .stall ∧
        ∃ deadline, s.branches[b].stallTimer = some deadline ∧ reached deadline s.timeBase = true)) :
    ∃ u, exec c s = .next (u.lossBy b cause) ∧ PortWritten b s u ∧
      { u.branches[b].lose with state := u.branches[b].outOfService } = clearedPort (s.branches[b].lostBy cause) := by
  rcases hcause with ⟨rfl, rfl⟩ | ⟨rfl, rfl⟩ | ⟨rfl, rfl⟩ | ⟨rfl, rfl, deadline, hrun, hdue⟩
  · exact ⟨_, exec_branchPartnerLost hin, setBranch_portWritten rfl, by rw [setBranch_self]; rfl⟩
  · exact ⟨_, exec_branchCheckFailure hin, setBranch_portWritten rfl, by rw [setBranch_self]; rfl⟩
  · exact ⟨s, exec_branchResetSequenceReceived hin, .refl b s, rfl⟩
  · exact ⟨_, exec_stallTimerExpiry hrun hdue, setBranch_portWritten rfl, by rw [setBranch_self]; rfl⟩

end

/-- Settles O38: the loss that the cause takes, in the terms of the part before it. -/
theorem branchLoss : Obligations.BranchLoss := by
  intro c cause b s hin hcause
  obtain ⟨u, hexec, hu, hport⟩ := exec_loss hin hcause
  obtain ⟨hpcl, hctl⟩ := lossBy_completes hu cause
  obtain ⟨hother, hframe⟩ := lossBy_written hu cause
  exact ⟨_, hexec, lossBy_settles hu cause, hpcl, hctl, (lossBy_self u b cause).trans hport, hother, lossBy_attention hu cause,
    sameBut_trans hframe (sameBut_refl [] _) (by decide) (by decide)⟩

end Sys2Proof.Machine
end

section
/-! A CREDIT on a branch (R66), what a port sends and what it does not (R61 to R63, R67), and its stall timer (R71). -/

namespace Sys2Proof.Machine

open Sys2Proof.Safety

/-! ## The stall timer -/

/-- The three conditions of the stall timer (R71). -/
theorem stalled_iff (br : Branch) :
    br.stalled = true ↔ br.queue ≠ [] ∧ br.credit = 0 ∧ (br.state = .active ∨ br.state = .draining) := by
  simp [Branch.stalled, issues_iff, and_assoc]

/-- A port with credit has no stall timer (R71). -/
theorem stalled_eq_false_of_credit {br : Branch} (h : br.credit ≠ 0) : br.stalled = false :=
  Bool.eq_false_iff.mpr fun hs => h ((stalled_iff br).mp hs).2.1

theorem restall_of_stalled (now len : Time) {br : Branch} (h : br.stalled = true) :
    br.restall now len = { br with stallTimer := some (br.stallTimer.getD (now + len)) } := by
  rw [Branch.restall, if_pos h]

/-! ## A port written -/

/-- A port written with its timer in agreement is left as it was written. -/
theorem setBranch_self_of_timerOk {s : State} {b : BranchId} {br : Branch} (h : TimerOk br) :
    (s.setBranch b br).branches[b] = br := by
  rw [setBranch_self, restall_of_timerOk _ _ _ h]

theorem setBranch_self_of_credit {s : State} {b : BranchId} {br : Branch} (h : br.credit ≠ 0) :
    (s.setBranch b br).branches[b] = { br with stallTimer := none } := by
  rw [setBranch_self, restall_of_not_stalled _ _ _ (stalled_eq_false_of_credit h)]

theorem portsOk_timerOk {s : State} (hs : PortsOk s) (b : BranchId) : TimerOk s.branches[b] := by
  obtain ⟨-, -, -, -, htimer⟩ := hs b
  exact htimer

theorem portsOk_capacity {s : State} (hs : PortsOk s) {b : BranchId} (hin : s.branches[b].state.inService = true) :
    1 ≤ s.branches[b].capacity := by
  obtain ⟨-, -, -, hservice, -⟩ := hs b
  exact hservice hin

/-- A write of one port in the terms of the claims: the port, the others, and nothing else. -/
theorem setBranch_next {s : State} {b : BranchId} {br : Branch} (h : TimerOk br) :
    ∃ t, (.next (s.setBranch b br) : Result) = .next t ∧ t.branches[b] = br ∧ OtherBranches b s t ∧ SameBut [.branches] s t :=
  ⟨_, rfl, setBranch_self_of_timerOk h, setBranch_other s b br, setBranch_frame s b br⟩

/-! ## CREDIT -/

section
variable {s : State} {b : BranchId} {n : Nat}

/-- A branch in training or in RESETTING takes no CREDIT (R66, R80). -/
theorem takeCredit_out (h : s.branches[b].state.inService = false) : s.takeCredit b n = s := by
  rw [State.takeCredit]
  exact if_neg (Bool.eq_false_iff.mp h)

theorem takeCredit_fits (hin : s.branches[b].state.inService = true)
    (hfits : s.branches[b].credit + n ≤ s.branches[b].capacity) :
    s.takeCredit b n = s.setBranch b { s.branches[b] with credit := s.branches[b].credit + n } := by
  simp only [State.takeCredit, if_pos hin, if_pos hfits]

/-- The credit becomes the capacity and the excess is recorded (R66). -/
theorem takeCredit_excess (hin : s.branches[b].state.inService = true)
    (hexcess : s.branches[b].capacity < s.branches[b].credit + n) :
    s.takeCredit b n = State.recordFault
      { kind := .creditExcess, timestamp := s.timeBase, branch := some b,
        count := some (s.branches[b].credit + n - s.branches[b].capacity) }
      (s.setBranch b { s.branches[b] with credit := s.branches[b].capacity }) := by
  simp only [State.takeCredit, if_pos hin, if_neg (not_le.mpr hexcess)]

end

/-- Settles O42, by the branch's state and the room below its capacity; a port that has credit has no stall timer. -/
theorem branchCreditFrame : Obligations.BranchCreditFrame := by
  intro b f s hrow hsize hports br n
  have hexec : exec (.branchCredit b f) s = .next (s.takeCredit b n) := by
    show execBranchCredit b f s = _
    rw [execBranchCredit, takeFrame_good hrow hsize]
  rw [hexec]
  refine ⟨fun hout => ?_, fun hin hfits => ⟨_, rfl, ?_⟩, fun hin hexcess => ⟨_, rfl, ?_⟩⟩
  · have hservice : br.state.inService = false := by rcases hout with h | h <;> rw [h] <;> rfl
    rw [takeCredit_out hservice]
  · have hcredit : br.credit + n ≠ 0 := Nat.succ_ne_zero _
    rw [takeCredit_fits hin hfits]
    exact ⟨setBranch_self_of_credit hcredit, setBranch_other s b _, setBranch_frame s b _⟩
  · have hcredit : br.capacity ≠ 0 := Nat.one_le_iff_ne_zero.mp (portsOk_capacity hports hin)
    rw [takeCredit_excess hin hexcess]
    refine ⟨?_, fun c hc => ?_, attention_recordFault _ ⟨rfl, rfl, rfl⟩,
      sameBut_trans (setBranch_frame s b _) (recordFault_frame _ _) (by decide) (by decide)⟩
    · rw [State.recordFault_branches]
      exact setBranch_self_of_credit (br := { br with credit := br.capacity }) hcredit
    · rw [State.recordFault_branches]
      exact setBranch_other s b _ c hc

/-! ## What the port sends -/

/-- Nothing goes with the transmitter busy or out of service (R67). -/
theorem choice_blocked {br : Branch} (h : br.tx ≠ none ∨ br.state.inService = false) (k : BranchChoice) :
    br.choice ≠ some k := by
  intro hk
  obtain ⟨htx, hin⟩ := choice_some hk
  exact h.elim (fun h => h htx) fun h => Bool.noConfusion (h.symm.trans hin)

section
variable {br : Branch} (htx : br.tx = none) (hin : br.state.inService = true)
include htx hin

theorem choice_not_blocked : ¬(br.tx ≠ none ∨ br.state.inService = false) := by
  simp [htx, hin]

theorem choice_grant (hwanted : br.lendWanted = .granted) (htold : br.lendTold = .notGranted) : br.choice = some .grant := by
  rw [Branch.choice, if_neg (choice_not_blocked htx hin), if_pos (by simp [hwanted, htold]), hwanted]

theorem choice_reclaim (hwanted : br.lendWanted = .notGranted) (htold : br.lendTold = .granted) :
    br.choice = some .reclaim := by
  rw [Branch.choice, if_neg (choice_not_blocked htx hin), if_pos (by simp [hwanted, htold]), hwanted]

theorem choice_release (hlend : br.lendWanted = br.lendTold) {l : Fin 8} (hmark : br.releaseMarks[l] = true)
    (hlow : ∀ k : Fin 8, k < l → br.releaseMarks[k] = false) : br.choice = some (.release l) := by
  have hfind : (List.finRange 8).find? (fun l => br.releaseMarks[l]) = some l := (find?_finRange_eq_some _ l).mpr ⟨hmark, hlow⟩
  rw [Branch.choice, if_neg (choice_not_blocked htx hin), if_neg (not_not.mpr hlend), hfind]

/-- The head item goes when no link-control frame waits and there is credit (R61). -/
theorem choice_head (hlend : br.lendWanted = br.lendTold) (hmarks : ∀ l : Fin 8, br.releaseMarks[l] = false)
    (hissues : br.state.issues = true) (hcredit : 0 < br.credit) {i : Item} {rest : List Item} (hqueue : br.queue = i :: rest) :
    br.choice = some (.issue i) := by
  have hfind : (List.finRange 8).find? (fun l => br.releaseMarks[l]) = none := by simp [hmarks]
  rw [Branch.choice, if_neg (choice_not_blocked htx hin), if_neg (not_not.mpr hlend), hfind, hqueue]
  simp [hissues, hcredit]

end

/-! ## Link-control frames -/

section
variable {s : State} {b : BranchId}

theorem exec_sendGrant (h : s.branches[b].choice = some .grant) : exec (.sendGrant b) s =
    .next (s.setBranch b { s.branches[b] with lendTold := .granted, tx := some .grant }) := by
  obtain ⟨-, -, hwanted, -⟩ := choice_says h
  show execSendGrant b s = _
  simp only [execSendGrant, if_pos h, hwanted]

theorem exec_sendGrant_stops (h : s.branches[b].choice ≠ some .grant) : exec (.sendGrant b) s = .fault .notBranchChoice :=
  if_neg h

theorem exec_sendReclaim (h : s.branches[b].choice = some .reclaim) : exec (.sendReclaim b) s =
    .next (s.setBranch b { s.branches[b] with lendTold := .notGranted, tx := some .reclaim }) := by
  obtain ⟨-, -, hwanted, -⟩ := choice_says h
  show execSendReclaim b s = _
  simp only [execSendReclaim, if_pos h, hwanted]

theorem exec_sendReclaim_stops (h : s.branches[b].choice ≠ some .reclaim) :
    exec (.sendReclaim b) s = .fault .notBranchChoice := if_neg h

theorem exec_sendRelease {l : Fin 8} (h : s.branches[b].choice = some (.release l)) : exec (.sendRelease b) s =
    .next (s.setBranch b { s.branches[b] with
      releaseMarks := s.branches[b].releaseMarks.set l false, tx := some (.release l) }) := by
  show execSendRelease b s = _
  simp only [execSendRelease, h]

theorem exec_sendRelease_stops (h : ∀ l : Fin 8, s.branches[b].choice ≠ some (.release l)) :
    exec (.sendRelease b) s = .fault .notBranchChoice := by
  show execSendRelease b s = _
  unfold execSendRelease
  dsimp only
  split
  case h_1 l hl => exact absurd hl (h l)
  case h_2 => rfl

end

/-- Settles O45: the choice of each frame makes its send, and what a choice says of the port refutes the others. -/
theorem linkControlSends : Obligations.LinkControlSends := by
  refine ⟨fun b s hports hin htx => ?_, fun b s => ?_⟩
  · have htimer : TimerOk s.branches[b] := portsOk_timerOk hports b
    refine ⟨fun hwanted htold => ?_, fun hwanted htold => ?_, fun hlend l hmark hlow => ?_⟩
    · rw [exec_sendGrant (choice_grant htx hin hwanted htold)]
      exact setBranch_next (br := { s.branches[b] with lendTold := _, tx := _ }) htimer
    · rw [exec_sendReclaim (choice_reclaim htx hin hwanted htold)]
      exact setBranch_next (br := { s.branches[b] with lendTold := _, tx := _ }) htimer
    · rw [exec_sendRelease (choice_release htx hin hlend hmark hlow)]
      exact setBranch_next (br := { s.branches[b] with releaseMarks := _, tx := _ }) htimer
  · refine ⟨fun h => ⟨exec_sendGrant_stops (choice_blocked h _), exec_sendReclaim_stops (choice_blocked h _),
      exec_sendRelease_stops fun l => choice_blocked h _⟩, fun h => exec_sendGrant_stops fun hk => ?_,
      fun h => exec_sendReclaim_stops fun hk => ?_, fun h => exec_sendRelease_stops fun l hk => ?_,
      fun h => exec_sendRelease_stops fun l hk => ?_⟩
    · obtain ⟨-, -, hwanted, htold⟩ := choice_says hk
      rcases h with h | h
      · exact Lend.noConfusion (h.symm.trans hwanted)
      · exact Lend.noConfusion (h.symm.trans htold)
    · obtain ⟨-, -, hwanted, htold⟩ := choice_says hk
      rcases h with h | h
      · exact Lend.noConfusion (h.symm.trans hwanted)
      · exact Lend.noConfusion (h.symm.trans htold)
    · obtain ⟨-, -, hlend, -⟩ := choice_says hk
      exact h hlend
    · obtain ⟨-, -, -, hmark, -⟩ := choice_says hk
      exact Bool.noConfusion ((h l).symm.trans hmark)

/-! ## Issue -/

section
variable {s : State} {b : BranchId}

theorem exec_issueNonPosted {e : EntryId} {h : Held} {data : List Word}
    (hchoice : s.branches[b].choice = some (.issue (.nonPosted e))) (he : s.entries[e] = .queued h data) :
    exec (.issueNonPosted b) s = .next ((s.setEntry e (.issued h (s.timeBase + s.timing.cls h.cls))).setBranch b
      (s.branches[b].issue (h.request e data))) := by
  show execIssueNonPosted b s = _
  simp only [execIssueNonPosted, hchoice, he]

theorem exec_issueNonPosted_stops (h : ∀ e : EntryId, s.branches[b].choice ≠ some (.issue (.nonPosted e))) :
    exec (.issueNonPosted b) s = .fault .notBranchChoice := by
  show execIssueNonPosted b s = _
  unfold execIssueNonPosted
  split
  case h_1 e he => exact absurd he (h e)
  case h_2 => rfl

theorem exec_issuePosted {w : WindowId} {address : Word} {length : BitVec 5} {hop : BitVec 3} {data : List Word}
    (hchoice : s.branches[b].choice = some (.issue (.posted w address length hop data))) :
    exec (.issuePosted b) s = .next (State.settle (fun v => decide (v = w)) (fun c => decide (c = b))
      (State.uncountOne w (s.setBranch b (s.branches[b].issue (.request .postedWrite 0 address length hop data))))) := by
  show execIssuePosted b s = _
  simp only [execIssuePosted, hchoice]

theorem exec_issuePosted_stops (h : ∀ i : Item, i.isPosted = true → s.branches[b].choice ≠ some (.issue i)) :
    exec (.issuePosted b) s = .fault .notBranchChoice := by
  show execIssuePosted b s = _
  unfold execIssuePosted
  split
  case h_1 hk => exact absurd hk (h _ rfl)
  case h_2 => rfl

end

/-- Nothing is issued with the transmitter busy, a link-control frame waiting, the credit 0, another branch state or no item (R61). -/
theorem choice_not_issue {br : Branch}
    (h : br.tx ≠ none ∨ (br.lendWanted ≠ br.lendTold ∨ ∃ l : Fin 8, br.releaseMarks[l] = true) ∨ br.credit = 0 ∨
      (br.state ≠ .active ∧ br.state ≠ .draining) ∨ br.queue = []) (i : Item) : br.choice ≠ some (.issue i) := by
  intro hk
  obtain ⟨htx, -, hlend, hmarks, hissues, hcredit, hqueue⟩ := choice_says hk
  rcases h with h | (h | ⟨l, h⟩) | h | ⟨hactive, hdraining⟩ | h
  · exact h htx
  · exact h hlend
  · exact Bool.noConfusion ((hmarks l).symm.trans h)
  · exact hcredit.ne' h
  · exact ((issues_iff br.state).mp hissues).elim hactive hdraining
  · exact List.cons_ne_nil _ _ (hqueue.symm.trans h)

/-- The item issued is the head item (R61). -/
theorem issued_is_head {br : Branch} {i j : Item} {rest : List Item} (hk : br.choice = some (.issue j))
    (hqueue : br.queue = i :: rest) : j = i := by
  obtain ⟨-, -, -, hhead⟩ := choice_issue hk
  exact (List.cons.inj (hhead.symm.trans hqueue)).1

/-- The stall timer after any change of a port (R71). -/
theorem restall_cases (now length : Time) (br : Branch) :
    let runs := br.queue ≠ [] ∧ br.credit = 0 ∧ (br.state = .active ∨ br.state = .draining)
    (¬runs → br.restall now length = { br with stallTimer := none }) ∧
    (runs → br.stallTimer = none → br.restall now length = { br with stallTimer := some (now + length) }) ∧
    (runs → ∀ deadline, br.stallTimer = some deadline → br.restall now length = br) := by
  intro runs
  refine ⟨fun hno => ?_, fun hrun hnone => ?_, fun hrun deadline hsome => ?_⟩
  · exact restall_of_not_stalled now length br (Bool.eq_false_iff.mpr fun h => hno ((stalled_iff br).mp h))
  · rw [restall_of_stalled now length ((stalled_iff br).mpr hrun), hnone]
    rfl
  · refine restall_of_timerOk now length br ?_
    rw [TimerOk, hsome, (stalled_iff br).mpr hrun]
    rfl

/-- Settles O46: the timer by its three conditions, the stops by what a choice of an issue says of the port, and the issue of each kind
of head item. -/
theorem stallTimerAndIssue : Obligations.StallTimerAndIssue := by
  refine ⟨restall_cases, fun b s => ⟨fun h => ?_, fun i rest hqueue => ⟨fun hi => ?_, fun hi => ?_⟩⟩,
    fun b rest s hstate hcredit htx hlend hmarks => ?_⟩
  · exact ⟨exec_issueNonPosted_stops fun e => choice_not_issue h _, exec_issuePosted_stops fun i _ => choice_not_issue h i⟩
  · refine exec_issueNonPosted_stops fun e hk => ?_
    rw [← issued_is_head hk hqueue] at hi
    cases hi
  · refine exec_issuePosted_stops fun j hj hk => ?_
    rw [issued_is_head hk hqueue, hi] at hj
    cases hj
  · have hissues : s.branches[b].state.issues = true := (issues_iff _).mpr hstate
    have hin : s.branches[b].state.inService = true := inService_of_issues hissues
    have hclear (l : Fin 8) : s.branches[b].releaseMarks[l] = false := by rw [hmarks]; simp
    have hissue (f : BranchFrame) {i : Item} (hqueue : s.branches[b].queue = i :: rest) : s.branches[b].issue f =
        { s.branches[b] with queue := rest, credit := s.branches[b].credit - 1, tx := some f } := by
      rw [Branch.issue, hqueue, List.tail_cons]
    refine ⟨fun e h data hqueue he => ?_, fun w address length hop data hqueue => ?_⟩
    · rw [exec_issueNonPosted (choice_head htx hin hlend hclear hissues hcredit hqueue) he, hissue _ hqueue]
      refine ⟨_, rfl, ?_, ?_, setBranch_self (s.setEntry e _) b _, setBranch_other (s.setEntry e _) b _, by simp [sameBut_iff]⟩
      · exact setEntry_self s e _
      · exact setEntry_other s e _
    · rw [exec_issuePosted (choice_head htx hin hlend hclear hissues hcredit hqueue), hissue _ hqueue]
      have hu (br : Branch) : State.uncountOne w (s.setBranch b br) = { s with
          branches := s.branches.set b (br.restall s.timeBase s.timing.stall)
          windows := s.windows.set w { s.windows[w] with inFlight := s.windows[w].inFlight - 1 } } :=
        congrArg (fun v => { s.setBranch b br with windows := v }) (uncountOne_windows (s.setBranch b br) w)
      rw [hu]
      exact ⟨_, rfl, ⟨rfl, rfl, rfl, rfl⟩, by simp [sameBut_iff]⟩

end Sys2Proof.Machine
end

section
/-! FENCE-BRANCH and UNFENCE-BRANCH (R90 to R94): what each leaves for every state of its branch, and the stall timer of a port whose
state a command writes (R71). -/

namespace Sys2Proof.Machine

open Sys2Proof.Safety

/-! ## The stall timer of a port written -/

theorem stalled_eq_false_of_queue {br : Branch} (h : br.queue = []) : br.stalled = false :=
  Bool.eq_false_iff.mpr fun hs => ((stalled_iff br).mp hs).1 h

theorem stalled_eq_false_of_issues {br : Branch} (h : br.state.issues = false) : br.stalled = false := by
  simp [Branch.stalled, h]

/-- The timer reads the state only as to whether items are issued in it (R71). -/
theorem stalled_congr {br br' : Branch} (hqueue : br'.queue = br.queue) (hcredit : br'.credit = br.credit)
    (hissues : br'.state.issues = br.state.issues) : br'.stalled = br.stalled := by
  rw [Branch.stalled, Branch.stalled, hqueue, hcredit, hissues]

/-- A change that moves neither the timer nor its conditions. -/
theorem timerOk_of_stalled_eq {br br' : Branch} (h : TimerOk br) (htimer : br'.stallTimer = br.stallTimer)
    (hstalled : br'.stalled = br.stalled) : TimerOk br' :=
  (congrArg Option.isSome htimer).trans (Eq.trans h hstalled.symm)

/-- A port whose queue is and stays empty has no timer, in any state. -/
theorem timerOk_of_queue {br br' : Branch} (h : TimerOk br) (hqueue : br.queue = []) (hsame : br'.queue = br.queue)
    (htimer : br'.stallTimer = br.stallTimer) : TimerOk br' :=
  timerOk_of_stalled_eq h htimer
    ((stalled_eq_false_of_queue (hsame.trans hqueue)).trans (stalled_eq_false_of_queue hqueue).symm)

/-- A port written in a state in which no item is issued has no stall timer (R71). -/
theorem setBranch_self_of_issues {s : State} {b : BranchId} {br : Branch} (h : br.state.issues = false) :
    (s.setBranch b br).branches[b] = { br with stallTimer := none } := by
  rw [setBranch_self, restall_of_not_stalled _ _ _ (stalled_eq_false_of_issues h)]

theorem setBranch_self_of_queue {s : State} {b : BranchId} {br : Branch} (h : br.queue = []) :
    (s.setBranch b br).branches[b] = { br with stallTimer := none } := by
  rw [setBranch_self, restall_of_not_stalled _ _ _ (stalled_eq_false_of_queue h)]

/-! ## FENCE-BRANCH -/

/-- The operands of FENCE-BRANCH read as the branch and the flag that they are the words of (R90, R171). -/
theorem fenceOperands_word (b : BranchId) (lend : Bool) : fenceOperands [word b.val, flagWord lend] = some (b, lend) := by
  have hb : (word b.val).toNat = b.val := word_toNat (b.isLt.trans (by decide))
  cases lend <;> simp [fenceOperands, hb, flagWord]

theorem exec_fenceBranch {s : State} {c : Control} {rest : List IntakeFrame} {b : BranchId} {lend : Bool}
    (h : s.intake = .control c :: rest) (hc : c.command = 7) (ho : c.operands = [word b.val, flagWord lend]) :
    exec .fenceBranch s = .next (State.fenceBranch c b lend { s with intake := rest }) := by
  show execFenceBranch s = _
  have hoperands : fenceOperands c.operands = some (b, lend) := by rw [ho, fenceOperands_word]
  exact takeControl_operands (operands := fun c => fenceOperands c.operands)
    (run := fun c (o : BranchId × Bool) => State.fenceBranch c o.1 o.2) h (by rw [hc]; rfl) hoperands

section
variable {s : State} (c : Control) {b : BranchId} (lend : Bool)

theorem fenceBranch_out (h : s.branches[b].state = .down ∨ s.branches[b].state = .training ∨ s.branches[b].state = .resetting) :
    s.fenceBranch c b lend = s.answerNow c .wrongState [] := by
  rcases h with h | h | h <;> simp only [State.fenceBranch, h]

theorem fenceBranch_draining (h : s.branches[b].state = .draining) : s.fenceBranch c b lend = s.answerNow c .already [] := by
  simp only [State.fenceBranch, h]

theorem fenceBranch_lent (h : s.branches[b].state = .lent) : s.fenceBranch c b lend = s.answerNow c .done [] := by
  simp only [State.fenceBranch, h]

/-- A fence that finds nothing to wait for is done at once (R90). -/
theorem fenceBranch_atOnce (h : s.branches[b].state = .fenced ∨ (s.branches[b].state = .active ∧ s.holdsWork b = false)) :
    s.fenceBranch c b lend = (s.setBranch b (s.branches[b].enterFence lend)).answerNow c .done [] := by
  rcases h with h | ⟨h, hwork⟩
  · simp only [State.fenceBranch, h]
  · simp only [State.fenceBranch, h, if_pos hwork]

/-- A fence of an ACTIVE branch with work is BUSY on a full list, and accepted otherwise (R90, R92). -/
theorem fenceBranch_work (h : s.branches[b].state = .active) (hwork : s.holdsWork b = true) :
    s.fenceBranch c b lend = if Config.pclCapacity ≤ s.pcl.length then s.answerNow c .busy []
      else (s.setBranch b { s.branches[b] with state := .draining, drainLend := lend }).accept c (.fence b) := by
  simp only [State.fenceBranch, h, hwork, Bool.true_eq_false, if_false]

end

/-- In FENCED and LENT no item is issued (R91). -/
theorem enterFence_issues (lend : Bool) (br : Branch) : (br.enterFence lend).state.issues = false := by
  cases lend <;> rfl

/-- Settles O31, by the state of the branch, its work and the room in the Pending Control List. -/
theorem fenceBranchResult : Obligations.FenceBranchResult := by
  intro c rest b lend s h hc ho hports br work fenced lent
  have htimer : TimerOk br := portsOk_timerOk hports b
  rw [exec_fenceBranch h hc ho]
  refine ⟨fun hst => ⟨_, rfl, ?_⟩, fun hst => ⟨_, rfl, ?_⟩, fun hst => ⟨_, rfl, ?_⟩, fun hst => ⟨_, rfl, ?_⟩,
    fun hst hwork hfull => ⟨_, rfl, ?_⟩, fun hst hwork hroom => ⟨_, rfl, ?_⟩⟩
  · rw [fenceBranch_out (s := { s with intake := rest }) c lend hst]
    exact answerNow_answeredOnly s c rest .wrongState []
  · rw [fenceBranch_draining (s := { s with intake := rest }) c lend hst]
    exact answerNow_answeredOnly s c rest .already []
  · rw [fenceBranch_lent (s := { s with intake := rest }) c lend hst]
    exact answerNow_answeredOnly s c rest .done []
  · have hidle : br.state = .fenced ∨ (br.state = .active ∧ s.holdsWork b = false) :=
      hst.imp_right fun ⟨hactive, hno⟩ => ⟨hactive, Bool.eq_false_iff.mpr fun hw => hno ((holdsWork_iff s b).mp hw)⟩
    have hport : { br.enterFence lend with stallTimer := none } = if lend = true then lent else fenced := by
      cases lend <;> rfl
    rw [fenceBranch_atOnce (s := { s with intake := rest }) c lend hidle, ← hport]
    exact ⟨⟨rfl, rfl⟩, setBranch_self_of_issues (enterFence_issues lend br), setBranch_other s b _, by simp [sameBut_iff]⟩
  · rw [fenceBranch_work (s := { s with intake := rest }) c lend hst ((holdsWork_iff s b).mpr hwork),
      if_pos (c := Config.pclCapacity ≤ s.pcl.length) hfull]
    exact answerNow_answeredOnly s c rest .busy []
  · rw [fenceBranch_work (s := { s with intake := rest }) c lend hst ((holdsWork_iff s b).mpr hwork),
      if_neg (c := Config.pclCapacity ≤ s.pcl.length) (not_le.mpr hroom)]
    have hdraining : TimerOk { br with state := .draining, drainLend := lend } :=
      timerOk_of_stalled_eq htimer rfl (stalled_congr rfl rfl (by rw [hst]; rfl))
    exact ⟨⟨rfl, rfl, rfl⟩, setBranch_self_of_timerOk hdraining, setBranch_other s b _, by simp [sameBut_iff]⟩

/-! ## UNFENCE-BRANCH -/

/-- The operation that an abort ends is the fence of its branch (R94, R96). -/
theorem abortFence_apply (b : BranchId) (op : LongOp) :
    abortFence b op = if op = .fence b then some .aborted else none := by
  cases op <;> simp [abortFence]

theorem exec_unfenceBranch {s : State} {c : Control} {rest : List IntakeFrame} {b : BranchId}
    (h : s.intake = .control c :: rest) (hc : c.command = 8) (ho : c.operands = [word b.val]) :
    exec .unfenceBranch s = .next (State.unfenceBranch c b { s with intake := rest }) := by
  show execUnfenceBranch s = _
  exact takeControl_operands h (by rw [hc]; rfl) (by rw [ho]; exact oneBelow_word (by decide) b)

section
variable {s : State} (c : Control) {b : BranchId}

theorem unfenceBranch_out (h : s.branches[b].state = .down ∨ s.branches[b].state = .training ∨ s.branches[b].state = .resetting) :
    s.unfenceBranch c b = s.answerNow c .wrongState [] := by
  rcases h with h | h | h <;> simp only [State.unfenceBranch, h]

theorem unfenceBranch_active (h : s.branches[b].state = .active) : s.unfenceBranch c b = s.answerNow c .notFenced [] := by
  simp only [State.unfenceBranch, h]

theorem unfenceBranch_draining (h : s.branches[b].state = .draining) : s.unfenceBranch c b =
    ((s.setBranch b { s.branches[b] with state := .active, drainLend := false }).complete (abortFence b)).answerNow c .done [] := by
  simp only [State.unfenceBranch, h]

/-- A branch that is unfenced out of LENT wants RECLAIM (R89, R94). -/
theorem unfenceBranch_fenced (h : s.branches[b].state = .fenced ∨ s.branches[b].state = .lent) : s.unfenceBranch c b =
    (s.setBranch b { s.branches[b] with
      state := .active
      lendWanted := if s.branches[b].state = .lent then .notGranted else s.branches[b].lendWanted }).answerNow c .done [] := by
  rcases h with h | h
  · simp only [State.unfenceBranch, h, reduceCtorEq, if_false]
  · simp only [State.unfenceBranch, h, if_true]

end

/-- Settles O32, by the state of the branch: a drain that is unfenced goes on issuing, and an empty queue starts no timer. -/
theorem unfenceBranchResult : Obligations.UnfenceBranchResult := by
  intro c rest b s h hc ho hports br aborts
  have htimer : TimerOk br := portsOk_timerOk hports b
  have haborts (op : LongOp) : abortFence b op = aborts op := abortFence_apply b op
  rw [exec_unfenceBranch h hc ho]
  refine ⟨fun hst => ⟨_, rfl, ?_⟩, fun hst => ⟨_, rfl, ?_⟩, fun hst => ⟨_, rfl, ?_⟩, fun hst hqueue => ⟨_, rfl, ?_⟩⟩
  · rw [unfenceBranch_out (s := { s with intake := rest }) c hst]
    exact answerNow_answeredOnly s c rest .wrongState []
  · rw [unfenceBranch_active (s := { s with intake := rest }) c hst]
    exact answerNow_answeredOnly s c rest .notFenced []
  · rw [unfenceBranch_draining (s := { s with intake := rest }) c hst]
    have hactive : TimerOk { br with state := .active, drainLend := false } :=
      timerOk_of_stalled_eq htimer rfl (stalled_congr rfl rfl (by rw [hst]; rfl))
    obtain ⟨hpcl, hctl⟩ := complete_congr (s := s.setBranch b { br with state := .active, drainLend := false }) (u := s)
      haborts rfl rfl
    exact ⟨rfl, setBranch_self_of_timerOk hactive, setBranch_other s b _, hpcl, congrArg (· ++ _) hctl, by simp [sameBut_iff]⟩
  · rw [unfenceBranch_fenced (s := { s with intake := rest }) c hst]
    have hactive : TimerOk { br with
        state := .active, lendWanted := if br.state = .lent then .notGranted else br.lendWanted } :=
      timerOk_of_queue htimer hqueue rfl rfl
    exact ⟨⟨rfl, rfl⟩, setBranch_self_of_timerOk hactive, setBranch_other s b _, by simp [sameBut_iff]⟩

end Sys2Proof.Machine
end

section
/-! RESET-BRANCH (R96, R97): its checks, and what its acceptance settles and leaves. -/

namespace Sys2Proof.Machine

open Sys2Proof.Safety

/-- The states out of service (R77). -/
theorem outOfService_iff (st : BranchState) : st.inService = false ↔ st = .down ∨ st = .training ∨ st = .resetting := by
  cases st <;> simp [BranchState.inService]

/-! ## RESET-BRANCH -/

theorem exec_resetBranch {s : State} {c : Control} {rest : List IntakeFrame} {b : BranchId}
    (h : s.intake = .control c :: rest) (hc : c.command = 9) (ho : c.operands = [word b.val]) :
    exec .resetBranch s = .next (State.resetBranch c b { s with intake := rest }) := by
  show execResetBranch s = _
  exact takeControl_operands h (by rw [hc]; rfl) (by rw [ho]; exact oneBelow_word (by decide) b)

/-- A fence of the branch is pending when the list holds its record (R96 step 2). -/
theorem fencePending_iff (s : State) (b : BranchId) : s.fencePending b = true ↔ ∃ r ∈ s.pcl, r.op = .fence b := by
  simp [State.fencePending]

section
variable {s : State} (c : Control) {b : BranchId}

theorem resetBranch_already (h : s.branches[b].state = .resetting) : s.resetBranch c b = s.answerNow c .already [] :=
  if_pos h

theorem resetBranch_busy (h : s.branches[b].state ≠ .resetting) (hfence : ¬∃ r ∈ s.pcl, r.op = .fence b)
    (hfull : 4 ≤ s.pcl.length) : s.resetBranch c b = s.answerNow c .busy [] := by
  have hnone : s.fencePending b = false := Bool.eq_false_iff.mpr fun hp => hfence ((fencePending_iff s b).mp hp)
  rw [State.resetBranch, if_neg h]
  exact if_pos ⟨hnone, hfull⟩

/-- A fence that is pending gives the reset its slot (R96 step 2). -/
theorem resetBranch_accepted (h : s.branches[b].state ≠ .resetting)
    (hroom : (∃ r ∈ s.pcl, r.op = .fence b) ∨ s.pcl.length < 4) :
    s.resetBranch c b = (s.resetEffects c.seq b).accept c (.reset b) := by
  have hnotBusy : ¬(s.fencePending b = false ∧ Config.pclCapacity ≤ s.pcl.length) := by
    rintro ⟨hnone, hfull⟩
    rcases hroom with hfence | hlt
    · exact Bool.noConfusion (hnone.symm.trans ((fencePending_iff s b).mpr hfence))
    · exact absurd hlt (not_lt.mpr hfull)
  rw [State.resetBranch, if_neg h, if_neg hnotBusy]

end

/-! ## The effects of a reset -/

/-- The port that a reset leaves: RESETTING, so without a stall timer (R71, R97). -/
theorem resetEffects_self (s : State) (seq : BitVec 8) (b : BranchId) : (s.resetEffects seq b).branches[b] =
    { (s.resetWork seq b).branches[b].beginReset s.timeBase with stallTimer := none } := by
  rw [State.resetEffects]
  exact setBranch_self_of_issues rfl

/-- Out of service a reset ends a fence of the branch and settles no work (R97). -/
theorem resetWork_outOfService {s : State} {b : BranchId} (seq : BitVec 8) (h : s.branches[b].state.inService = false) :
    s.resetWork seq b = s.complete (abortFence b) := by
  rw [State.resetWork]
  exact if_neg (Bool.eq_false_iff.mp h)

/-- In service a reset takes the effects of a loss, and records it without a raise of I1 (R85, R97). -/
theorem resetWork_inService {s : State} {b : BranchId} (seq : BitVec 8) (h : s.branches[b].state.inService = true) :
    s.resetWork seq b = State.recordFault ((s.complete (abortFence b)).lossRecord b .reset)
      { (s.complete (abortFence b)).lose b .resetting with ctlQ := s.resetAnswers seq b } := by
  rw [State.resetWork]
  exact if_pos h

/-- The entries, the Replies and the windows after a loss (R39, R82). -/
theorem lose_settles (s : State) (b : BranchId) (st : BranchState) : LossSettles b s (s.lose b st) :=
  ⟨fun e => (lose_entries s b st e).trans rfl, by simp [State.lose], lose_windows s b st⟩

/-- The lines that a loss withdraws (R83); what completes before it touches no attention block. -/
theorem lose_attention (s : State) (b : BranchId) (st : BranchState) (f : LongOp → Option ControlStatus) :
    AttentionOf { s with lines := lostLines s b } ((s.complete f).lose b st) :=
  ⟨State.lose_faults (s.complete f) b st, lose_lines (s.complete f) b st, State.lose_counters (s.complete f) b st⟩

/-- The attention blocks of one part are those of another through a third. -/
theorem attention_trans {s u t : State} (hsu : AttentionOf s u) (hut : AttentionOf u t) : AttentionOf s t := by
  obtain ⟨hf, hl, hc⟩ := hsu
  obtain ⟨hf', hl', hc'⟩ := hut
  exact ⟨hf'.trans hf, hl'.trans hl, hc'.trans hc⟩

/-- The answers placed are no attention block (R148). -/
theorem attention_answers {s u : State} (h : AttentionOf s u) (q : List ControlReply) : AttentionOf s { u with ctlQ := q } := h

section
variable {s : State} {b : BranchId} (seq : BitVec 8) (h : s.branches[b].state.inService = true)
include h

theorem resetWork_settles : LossSettles b s (s.resetWork seq b) := by
  obtain ⟨hentries, hreplies, hwindows⟩ := lose_settles (s.complete (abortFence b)) b .resetting
  rw [resetWork_inService seq h]
  refine ⟨fun e => ?_, ?_, fun w => ?_⟩
  · rw [State.recordFault_entries]
    exact hentries e
  · rw [State.recordFault_replyQ]
    exact hreplies
  · rw [State.recordFault_windows]
    exact hwindows w

theorem resetWork_self : (s.resetWork seq b).branches[b] = { s.branches[b].lose with state := .resetting } := by
  rw [resetWork_inService seq h, State.recordFault_branches]
  exact lose_branch_self (s.complete (abortFence b)) b .resetting

/-- The lines that a reset withdraws and its record (R83, R85, R97). -/
theorem resetWork_attention {v : State} (hv : AttentionOf v { s with lines := lostLines s b }) : AttentionOf (v.recordFault
    { kind := .branchLost, timestamp := s.timeBase, branch := some b, cause := some (.loss .reset),
      count := some (s.branches[b].queue.countP Item.isPosted) }) (s.resetWork seq b) := by
  rw [resetWork_inService seq h]
  exact attention_recordFault _ (attention_answers (attention_trans hv (lose_attention s b .resetting (abortFence b))) _)

end

theorem resetWork_other (s : State) (seq : BitVec 8) (b : BranchId) : OtherBranches b s (s.resetWork seq b) := by
  intro c hc
  cases h : s.branches[b].state.inService with
  | true =>
    rw [resetWork_inService seq h, State.recordFault_branches]
    exact lose_branch_other (s.complete (abortFence b)) b .resetting c hc
  | false => rw [resetWork_outOfService seq h, State.complete_branches]

theorem resetEffects_other (s : State) (seq : BitVec 8) (b : BranchId) : OtherBranches b s (s.resetEffects seq b) :=
  fun c hc => (setBranch_other (s.resetWork seq b) b _ c hc).trans (resetWork_other s seq b c hc)

/-- A reset that is accepted returns its credit and appends its record behind what its work leaves of the list (R97, R141, R181). -/
theorem resetAccepted_lists (s : State) (c : Control) (b : BranchId) :
    let t := (s.resetEffects c.seq b).accept c (.reset b)
    t.intake = s.intake ∧ t.acc = s.acc + 1 ∧
    t.pcl = (s.resetWork c.seq b).pcl ++ [⟨c.seq, .reset b, s.timeBase⟩] ∧ t.ctlQ = (s.resetWork c.seq b).ctlQ := by
  simp [State.resetEffects]

/-- A port written and a record appended touch no attention block (R97). -/
theorem accept_attention {s u : State} (b : BranchId) (br : Branch) (c : Control) (op : LongOp) (h : AttentionOf s u) :
    AttentionOf s ((u.setBranch b br).accept c op) := h

theorem not_resetting_of_inService {st : BranchState} (h : st.inService = true) : st ≠ .resetting := by
  rintro rfl
  cases h

/-- Settles O33: the checks in their order, and the work of an accepted reset out of service and in service. -/
theorem resetBranchResult : Obligations.ResetBranchResult := by
  intro c rest b s h hc ho
  simp only [← abortFence_apply]
  have hexec := exec_resetBranch h hc ho
  have hframe := exec_frame .resetBranch s _ hexec
  rw [hexec]
  obtain ⟨hintake, hacc, hpcl, hctl⟩ := resetAccepted_lists { s with intake := rest } c b
  have hport := resetEffects_self { s with intake := rest } c.seq b
  have hother := resetEffects_other { s with intake := rest } c.seq b
  refine ⟨fun r hr => abortFence_left hr, fun hst => ⟨_, rfl, ?_⟩, fun hst hfence hfull => ⟨_, rfl, ?_⟩,
    fun hst hroom => ⟨_, rfl, ?_⟩, fun hst hroom => ⟨_, rfl, ?_⟩⟩
  · rw [resetBranch_already (s := { s with intake := rest }) c hst]
    exact answerNow_answeredOnly s c rest .already []
  · rw [resetBranch_busy (s := { s with intake := rest }) c hst hfence hfull]
    exact answerNow_answeredOnly s c rest .busy []
  · have hout : s.branches[b].state.inService = false := (outOfService_iff _).mpr (hst.imp_right .inl)
    have hne : s.branches[b].state ≠ .resetting := by rcases hst with hst | hst <;> rw [hst] <;> decide
    rw [resetBranch_accepted (s := { s with intake := rest }) c hne hroom]
    rw [resetWork_outOfService (s := { s with intake := rest }) c.seq hout] at hpcl hctl hport
    refine ⟨hintake, hacc, hpcl, hctl, hport, hother, ?_⟩
    rw [State.resetEffects, resetWork_outOfService (s := { s with intake := rest }) c.seq hout]
    simp [sameBut_iff]
  · have hne := not_resetting_of_inService hst
    rw [resetBranch_accepted (s := { s with intake := rest }) c hne hroom] at hframe ⊢
    rw [resetWork_self (s := { s with intake := rest }) c.seq hst] at hport
    obtain ⟨hleft, hanswers⟩ := resetWork_completes (s := { s with intake := rest }) (seq := c.seq) hst
    have hattention := resetWork_attention (s := { s with intake := rest }) c.seq hst
      (v := { s with lines := lostLines s b }) ⟨rfl, rfl, rfl⟩
    rw [hleft] at hpcl
    rw [← hctl] at hanswers
    exact ⟨hintake, hacc, resetWork_settles (s := { s with intake := rest }) c.seq hst, hanswers, hpcl, hport, hother,
      accept_attention b _ c _ hattention,
      sameBut_trans hframe (sameBut_refl [] _) (by decide) (by decide)⟩

end Sys2Proof.Machine
end

section
/-! The branch links (R78 to R80, R87, R88, R98, R99, R157, R167): what a link takes out of service, the end of training and of a reset,
WITHDRAW and RETURN, and the links as the part leaves power-on reset. -/

namespace Sys2Proof.Machine

open Sys2Proof.Safety

/-! ## A port written -/

/-- A port written as it stands, its timer in agreement, leaves the part as it is. -/
theorem setBranch_same {s : State} {b : BranchId} (h : TimerOk s.branches[b]) : s.setBranch b s.branches[b] = s := by
  rw [State.setBranch, restall_of_timerOk _ _ _ h, Fin.getElem_fin, Vector.set_getElem_self]

/-- Out of service no item is issued (R61, R77). -/
theorem issues_of_outOfService {st : BranchState} (h : st.inService = false) : st.issues = false :=
  Bool.eq_false_iff.mpr fun hi => Bool.noConfusion (h.symm.trans (inService_of_issues hi))

/-- Out of service a port may change its state to another out of service: its timer stays as it is (R71). -/
theorem timerOk_of_outOfService {br br' : Branch} (h : TimerOk br) (hold : br.state.inService = false)
    (hnew : br'.state.inService = false) (htimer : br'.stallTimer = br.stallTimer) : TimerOk br' :=
  timerOk_of_stalled_eq h htimer ((stalled_eq_false_of_issues (issues_of_outOfService hnew)).trans
    (stalled_eq_false_of_issues (issues_of_outOfService hold)).symm)

/-! ## A signal that appears or is lost -/

section
variable {s : State} {b : BranchId}

/-- A signal that is not ignored starts training in DOWN, out of power-on reset (R78). -/
theorem exec_branchPartnerAppears_starts (hporst : s.porst = false) (hdown : s.branches[b].state = .down)
    (hmark : s.branches[b].ignorePartner = false) :
    exec (.branchPartnerAppears b) s = .next (s.setBranch b { s.branches[b] with partner := true, state := .training }) := by
  show execBranchPartnerAppears b s = _
  simp only [execBranchPartnerAppears, if_pos (And.intro hdown (And.intro hmark hporst))]

/-- Otherwise the signal is noted and the state stays (R78, R98). -/
theorem exec_branchPartnerAppears_noted
    (h : s.porst = true ∨ s.branches[b].state ≠ .down ∨ s.branches[b].ignorePartner = true) :
    exec (.branchPartnerAppears b) s = .next (s.setBranch b { s.branches[b] with partner := true }) := by
  have hstay : ¬(s.branches[b].state = .down ∧ s.branches[b].ignorePartner = false ∧ s.porst = false) := by
    rintro ⟨hdown, hmark, hporst⟩
    rcases h with h | h | h
    · exact Bool.noConfusion (hporst.symm.trans h)
    · exact h hdown
    · exact Bool.noConfusion (hmark.symm.trans h)
  show execBranchPartnerAppears b s = _
  simp only [execBranchPartnerAppears, if_neg hstay]

/-- Out of service a lost signal is no loss of the branch (R78, R80, R98). -/
theorem exec_branchPartnerLost_out (h : s.branches[b].state.inService = false) :
    exec (.branchPartnerLost b) s = .next (s.setBranch b { s.branches[b] with
      partner := false, ignorePartner := false
      state := if s.branches[b].state = .training then .down else s.branches[b].state }) := by
  show execBranchPartnerLost b s = _
  simp only [execBranchPartnerLost, h, Bool.false_eq_true, if_false]

/-- Out of service a failed check and a reset sequence restart training, which changes no state held (R80, R98). -/
theorem exec_branchCheckFailure_out (h : s.branches[b].state.inService = false) :
    exec (.branchCheckFailure b) s = .next s := by
  show execBranchCheckFailure b s = _
  rw [execBranchCheckFailure, State.branchCheckFails, if_neg (Bool.eq_false_iff.mp h)]

theorem exec_branchResetSequenceReceived_out (h : s.branches[b].state.inService = false) :
    exec (.branchResetSequenceReceived b) s = .next s := by
  show execBranchResetSequenceReceived b s = _
  rw [execBranchResetSequenceReceived, if_neg (Bool.eq_false_iff.mp h)]

end

/-! ## Training completes -/

section
variable {s : State} {b : BranchId} {capacity : BitVec 4}

theorem exec_branchTrainingComplete_none (h : capacity = 0 ∨ s.branches[b].partner = false) :
    exec (.branchTrainingComplete b capacity) s = .next s := by
  show execBranchTrainingComplete b capacity s = _
  rw [execBranchTrainingComplete, if_pos h]

/-- With a capacity of 1 or more and a signal the exchange ends (R79, R159). -/
theorem exec_branchTrainingComplete (hcapacity : 1 ≤ capacity.toNat) (hpartner : s.branches[b].partner = true) :
    exec (.branchTrainingComplete b capacity) s = .next (s.branchTrained b (takenCapacity capacity)) := by
  have hcompletes : ¬(capacity = 0 ∨ s.branches[b].partner = false) := by
    rintro (rfl | hnone)
    · exact absurd hcapacity (by decide)
    · exact Bool.noConfusion (hnone.symm.trans hpartner)
  show execBranchTrainingComplete b capacity s = _
  rw [execBranchTrainingComplete, if_neg hcompletes]

theorem branchTrained_training {n : Nat} (h : s.branches[b].state = .training) :
    s.branchTrained b n = (s.setBranch b (s.branches[b].enterService n)).raiseInternal 2 := by
  simp only [State.branchTrained, h]

/-- Training that ends a reset answers it DONE (R99). -/
theorem branchTrained_resetting {n : Nat} (h : s.branches[b].state = .resetting) : s.branchTrained b n =
    ((s.setBranch b (s.branches[b].enterService n)).complete (endReset b .done)).raiseInternal 2 := by
  simp only [State.branchTrained, h]

end

/-- A capacity of 9 to 15 is taken as 8 (R79). -/
theorem takenCapacity_eq (capacity : BitVec 4) :
    takenCapacity capacity = if 8 < capacity.toNat then 8 else capacity.toNat := by
  unfold takenCapacity
  split <;> omega

/-- The operation that the end of a reset answers is the reset of its branch (R99). -/
theorem endReset_apply (b : BranchId) (st : ControlStatus) (op : LongOp) :
    endReset b st op = if op = .reset b then some st else none := by
  cases op <;> simp [endReset]

/-- Settles O36: a port that comes into service with an empty queue starts no timer. -/
theorem branchTrainingCompletes : Obligations.BranchTrainingCompletes := by
  intro b capacity s
  refine ⟨fun hzero => exec_branchTrainingComplete_none (.inl hzero), ?_⟩
  intro hcapacity hstate hpartner hqueue taken
  have htaken : takenCapacity capacity = taken := takenCapacity_eq capacity
  rw [exec_branchTrainingComplete hcapacity hpartner, branchTrained_training hstate, htaken]
  have hport := setBranch_self_of_queue (s := s) (b := b) (br := s.branches[b].enterService taken) hqueue
  refine ⟨_, rfl, ?_, fun c hc => ?_, attention_raiseInternal 2 ⟨rfl, rfl, rfl⟩, by simp [sameBut_iff]⟩
  · rw [State.raiseInternal_branches]
    exact hport
  · rw [State.raiseInternal_branches]
    exact setBranch_other s b _ c hc

/-! ## The ends of a reset -/

section
variable {s : State} {b : BranchId} {deadline : Time}

/-- The partner wait expires while the branch is RESETTING: DOWN, its reset NO-PARTNER (R99, R102). -/
theorem exec_partnerWaitExpiry (hstate : s.branches[b].state = .resetting) (hrun : s.branches[b].partnerWait = some deadline)
    (hdue : reached deadline s.timeBase = true) : exec (.partnerWaitExpiry b) s =
      .next ((s.setBranch b { s.branches[b] with
        state := .down, ignorePartner := s.branches[b].partner, partnerWait := none }).complete (endReset b .noPartner)) := by
  have hwait : waitDue s.branches[b].partnerWait s.timeBase = true := by rw [hrun]; exact hdue
  exact if_pos ⟨hstate, hwait⟩

theorem exec_partnerWaitExpiry_stops (hrun : s.branches[b].partnerWait = some deadline)
    (hahead : reached deadline s.timeBase = false) : exec (.partnerWaitExpiry b) s = .fault .notDue := by
  have hwait : waitDue s.branches[b].partnerWait s.timeBase = false := by rw [hrun]; exact hahead
  exact if_neg fun ⟨_, hdue⟩ => Bool.noConfusion (hwait.symm.trans hdue)

end

/-- Settles O37: training ends the reset as it ends training, with the reset's answer; the expiry takes the port to DOWN. -/
theorem resetEnds : Obligations.ResetEnds := by
  intro b s hstate hports ends
  have htimer : TimerOk s.branches[b] := portsOk_timerOk hports b
  have hends (st : ControlStatus) (op : LongOp) : endReset b st op = ends st op := endReset_apply b st op
  refine ⟨?_, fun deadline hrun => ⟨fun hdue => ?_, fun hahead => ?_⟩⟩
  · intro capacity hcapacity hpartner hqueue taken
    have htaken : takenCapacity capacity = taken := takenCapacity_eq capacity
    rw [exec_branchTrainingComplete hcapacity hpartner, branchTrained_resetting hstate, htaken]
    have hactive : TimerOk (s.branches[b].enterService taken) := timerOk_of_queue htimer hqueue rfl rfl
    obtain ⟨hpcl, hctl⟩ := complete_congr (s := s.setBranch b (s.branches[b].enterService taken)) (u := s) (hends .done) rfl rfl
    refine ⟨_, rfl, ?_, fun c hc => ?_, attention_raiseInternal 2 ⟨rfl, rfl, rfl⟩, ?_, ?_, by simp [sameBut_iff]⟩
    · rw [State.raiseInternal_branches]
      exact setBranch_self_of_timerOk hactive
    · rw [State.raiseInternal_branches]
      exact setBranch_other s b _ c hc
    · rw [State.raiseInternal_pcl]
      exact hpcl
    · rw [State.raiseInternal_ctlQ]
      exact hctl
  · rw [exec_partnerWaitExpiry hstate hrun hdue]
    have hdown : TimerOk { s.branches[b] with state := .down, ignorePartner := s.branches[b].partner, partnerWait := none } :=
      timerOk_of_outOfService htimer (by rw [hstate]; rfl) rfl rfl
    obtain ⟨hpcl, hctl⟩ := complete_congr (s := s.setBranch b { s.branches[b] with
      state := .down, ignorePartner := s.branches[b].partner, partnerWait := none }) (u := s) (hends .noPartner) rfl rfl
    exact ⟨_, rfl, setBranch_self_of_timerOk hdown, setBranch_other s b _, hpcl, hctl, by simp [sameBut_iff]⟩
  · exact exec_partnerWaitExpiry_stops hrun hahead

/-! ## WITHDRAW and RETURN -/

section
variable {s : State} {b : BranchId} {f : Frame}

theorem exec_withdraw (hrow : f.isOneOf [8] = true) (hsize : f.sizeOk = true) :
    exec (.withdraw b f) s = .next (s.takeWithdraw b) :=
  takeFrame_good hrow hsize

theorem exec_unitReturn (hrow : f.isOneOf [9] = true) (hsize : f.sizeOk = true) :
    exec (.unitReturn b f) s = .next (s.takeReturn b) :=
  takeFrame_good hrow hsize

/-- Before its lend a module may ask to be taken out of service (R87). -/
theorem takeWithdraw_asks (h : s.branches[b].state = .active ∨ s.branches[b].state = .draining ∨ s.branches[b].state = .fenced) :
    s.takeWithdraw b = (s.setBranch b { s.branches[b] with withdraw := true }).raiseInternal 3 := by
  rcases h with h | h | h <;> simp only [State.takeWithdraw, h]

theorem takeWithdraw_lent (h : s.branches[b].state = .lent) : s.takeWithdraw b = s.wrongMoment b := by
  simp only [State.takeWithdraw, h]

theorem takeWithdraw_out (h : s.branches[b].state.inService = false) : s.takeWithdraw b = s := by
  rcases (outOfService_iff _).mp h with h | h | h <;> simp only [State.takeWithdraw, h]

/-- A module that was lent its branch gives it back (R88). -/
theorem takeReturn_lent (h : s.branches[b].state = .lent) : s.takeReturn b =
    (s.setBranch b { s.branches[b] with
      state := .fenced, lendWanted := .notGranted, lendTold := .notGranted }).raiseInternal 4 := by
  simp only [State.takeReturn, h]

theorem takeReturn_wrong (h : s.branches[b].state = .active ∨ s.branches[b].state = .draining ∨ s.branches[b].state = .fenced) :
    s.takeReturn b = s.wrongMoment b := by
  rcases h with h | h | h <;> simp only [State.takeReturn, h]

theorem takeReturn_out (h : s.branches[b].state.inService = false) : s.takeReturn b = s := by
  rcases (outOfService_iff _).mp h with h | h | h <;> simp only [State.takeReturn, h]

/-- A port written with its timer in agreement, and an internal line raised, in the terms of the claims. -/
theorem setBranch_raise_next {br : Branch} (k : Fin 8) (h : TimerOk br) :
    ∃ t, (.next ((s.setBranch b br).raiseInternal k) : Result) = .next t ∧ t.branches[b] = br ∧ OtherBranches b s t ∧
      AttentionOf (s.raiseInternal k) t ∧ SameBut [.branches, .lines, .counters] s t := by
  refine ⟨_, rfl, ?_, fun c hc => ?_, attention_raiseInternal k ⟨rfl, rfl, rfl⟩, by simp [sameBut_iff]⟩
  · rw [State.raiseInternal_branches]
    exact setBranch_self_of_timerOk h
  · rw [State.raiseInternal_branches]
    exact setBranch_other s b br c hc

/-- A frame at the wrong moment is recorded, and nothing else happens (R87, R88). -/
theorem wrongMoment_next :
    ∃ t, (.next (s.wrongMoment b) : Result) = .next t ∧
      AttentionOf (s.recordFault { kind := .unexpectedFrame, timestamp := s.timeBase, branch := some b }) t ∧
      SameBut [.faults, .lines, .counters] s t :=
  ⟨_, rfl, ⟨rfl, rfl, rfl⟩, recordFault_frame _ s⟩

end

/-- Settles O44, by the state of the branch. -/
theorem withdrawAndReturn : Obligations.WithdrawAndReturn := by
  intro b f s hsize hports br unexpected
  have htimer : TimerOk br := portsOk_timerOk hports b
  have hout (h : br.state = .training ∨ br.state = .resetting) : br.state.inService = false :=
    (outOfService_iff _).mpr (.inr h)
  refine ⟨fun hrow => ?_, fun hrow => ?_⟩
  · rw [exec_withdraw hrow hsize]
    refine ⟨fun hst => ?_, fun hst => ?_, fun hst => ?_⟩
    · rw [takeWithdraw_asks hst]
      exact setBranch_raise_next (br := { br with withdraw := true }) 3 htimer
    · rw [takeWithdraw_lent hst]
      exact wrongMoment_next
    · rw [takeWithdraw_out (hout hst)]
  · rw [exec_unitReturn hrow hsize]
    refine ⟨fun hst => ?_, fun hst => ?_, fun hst => ?_⟩
    · rw [takeReturn_lent hst]
      exact setBranch_raise_next 4 (timerOk_of_stalled_eq htimer rfl (stalled_congr rfl rfl (by rw [hst]; rfl)))
    · rw [takeReturn_wrong hst]
      exact wrongMoment_next
    · rw [takeReturn_out (hout hst)]

/-! ## Out of service -/

section
variable {s : State} {b : BranchId} (h : s.branches[b].state.inService = false)
include h

theorem takeReply_out (t : BitVec 6) (st : ReplyStatus) (data : List Word) : s.takeReply b t st data = s := by
  rw [State.takeReply, if_neg (Bool.eq_false_iff.mp h)]

theorem takeNotice_out (v : BitVec 8) : s.takeNotice b v = s := by
  rw [State.takeNotice, if_neg (Bool.eq_false_iff.mp h)]

theorem branchUnexpected_out (k : BitVec 4) : s.branchUnexpected b k = s := by
  rw [State.branchUnexpected, if_neg (Bool.eq_false_iff.mp h)]

/-- Out of service no frame but the training exchange is taken (R77, R167). -/
theorem frames_out {f : Frame} (hsize : f.sizeOk = true) :
    (f.isOneOf [2] = true → exec (.branchReply b f) s = .next s) ∧
    (f.isOneOf [5] = true → exec (.branchCredit b f) s = .next s) ∧
    (f.isOneOf [3] = true → exec (.branchNotice b f) s = .next s) ∧
    (f.isOneOf [8] = true → exec (.withdraw b f) s = .next s) ∧
    (f.isOneOf [9] = true → exec (.unitReturn b f) s = .next s) ∧
    (f.isNoneOf Frame.branchKinds = true → exec (.branchUnexpectedFrame b f) s = .next s) := by
  have htaken {isRow : Bool} {good : State → State} (hgood : good s = s) (hrow : isRow = true) :
      takeFrame isRow f (State.branchCheckFails b) good s = .next s := by rw [takeFrame_good hrow hsize, hgood]
  exact ⟨htaken (takeReply_out h _ _ _), htaken (takeCredit_out h), htaken (takeNotice_out h _), htaken (takeWithdraw_out h),
    htaken (takeReturn_out h), htaken (branchUnexpected_out h _)⟩

end

/-- Settles O35: the signal that appears, by whether it starts training; no exchange without a signal; the link events and the frames
of a branch out of service. -/
theorem branchLinkOutOfService : Obligations.BranchLinkOutOfService := by
  intro b s hports br
  have htimer : TimerOk br := portsOk_timerOk hports b
  refine ⟨fun hporst hdown hmark => ?_, fun hdown hmark hpartner => ?_, fun hstay => ?_,
    fun hnone capacity => exec_branchTrainingComplete_none (.inr hnone), fun hout => ?_, fun hout f hsize => frames_out hout hsize⟩
  · rw [exec_branchPartnerAppears_starts hporst hdown hmark]
    exact setBranch_next (timerOk_of_outOfService htimer (by rw [hdown]; rfl) rfl rfl)
  · have hport : { br with partner := true } = br := by rw [← hpartner]
    rw [exec_branchPartnerAppears_noted (.inr (.inr hmark)), hport, setBranch_same htimer]
  · rw [exec_branchPartnerAppears_noted (hstay.imp_right .inl)]
    have hport := setBranch_self_of_timerOk (s := s) (b := b) (br := { br with partner := true }) htimer
    refine ⟨_, rfl, hport, setBranch_other s b _, setBranch_frame s b _, fun hreset capacity hcapacity => ?_⟩
    rw [exec_branchTrainingComplete hcapacity (by rw [hport]), branchTrained_resetting (by rw [hport]; exact hreset)]
    refine ⟨_, rfl, ?_⟩
    rw [State.raiseInternal_branches, State.complete_branches, setBranch_self]
    rfl
  · refine ⟨exec_branchCheckFailure_out hout, exec_branchResetSequenceReceived_out hout, ?_⟩
    rw [exec_branchPartnerLost_out hout]
    refine setBranch_next (timerOk_of_outOfService htimer hout ?_ rfl)
    show BranchState.inService (if br.state = .training then .down else br.state) = false
    split
    · rfl
    · exact hout

/-! ## Leaving power-on reset -/

/-- A signal that is present on a link in DOWN counts as appearing, unless it is ignored (R78, R100). -/
theorem branch_leaveReset_eq (br : Branch) : br.leaveReset = { br with
    state := if br.state = .down ∧ br.partner = true ∧ br.ignorePartner = false then .training else br.state } := by
  have hstart : (br.partner && decide (br.state = .down) && !br.ignorePartner) = true ↔
      br.state = .down ∧ br.partner = true ∧ br.ignorePartner = false := by
    simp only [Bool.and_eq_true, decide_eq_true_eq, Bool.not_eq_true']
    tauto
  simp only [Branch.leaveReset, hstart]
  split <;> rfl

theorem trunk_leaveReset_eq (k : Trunk) : k.leaveReset = { k with
    state := if k.state = .down ∧ k.partner = true then .training else k.state } := by
  have hstart : (k.partner && decide (k.state = .down)) = true ↔ k.state = .down ∧ k.partner = true := by
    simp only [Bool.and_eq_true, decide_eq_true_eq, and_comm]
  simp only [Trunk.leaveReset, hstart]
  split <;> rfl

/-- Settles O4: each link is left as its own rule says. -/
theorem leavingPowerOnReset : Obligations.LeavingPowerOnReset := by
  intro s hporst
  have hexec : exec .leavePowerOnReset s = .next { s with
      porst := false, trunk := s.trunk.leaveReset, branches := Vector.ofFn fun b => s.branches[b].leaveReset } :=
    congrArg Host.Outcome.next (if_pos hporst)
  rw [hexec]
  refine ⟨_, rfl, rfl, trunk_leaveReset_eq s.trunk, fun b => ?_, by simp [sameBut_iff]⟩
  rw [← branch_leaveReset_eq]
  simp

end Sys2Proof.Machine
end

section
/-! The Delivery List and the Line Table (R105, R106, R108, R114): what their agreement says of one line, and that what happens to a
line, or to a record of the list, keeps it. -/

namespace Sys2Proof.Machine

open Sys2Proof.Safety

/-! ## The account of one line -/

/-- What the agreement says of line `n`, which is `listed` when a record of the Delivery List is its own (R105, R106, R108). -/
structure LineAccount (n : LineId) (listed : Prop) (ln : Line) : Prop where
  delivered : ln.state = .delivered ↔ listed
  again : ln.again = true → ln.state = .delivered
  held : ln.state = .held → ln.enable = false
  release : 48 ≤ n.val → ln.release = false

/-- The lines that have a record on the Delivery List (R114). -/
def State.listed (s : State) : List LineId := s.deliveries.map Delivery.line

theorem noticesOk_iff (s : State) : NoticesOk s ↔
    s.listed.length ≤ Config.deliveryCapacity ∧ s.listed.Nodup ∧ ∀ n : LineId, LineAccount n (n ∈ s.listed) s.lines[n] := by
  unfold NoticesOk State.listed
  rw [List.length_map]
  refine and_congr_right fun _ => and_congr_right fun _ => forall_congr' fun n => ?_
  exact ⟨fun ⟨hd, ha, hh, hr⟩ => ⟨hd, ha, hh, hr⟩, fun ⟨hd, ha, hh, hr⟩ => ⟨hd, ha, hh, hr⟩⟩

section
variable {n : LineId} {p : Prop} {ln : Line}

theorem LineAccount.congr {q : Prop} (h : p ↔ q) (hp : LineAccount n p ln) : LineAccount n q ln :=
  propext h ▸ hp

theorem LineAccount.powerOn (n : LineId) : LineAccount n False Line.powerOn :=
  ⟨by simp [Line.powerOn], nofun, nofun, fun _ => rfl⟩

/-- A raise takes a line into or out of DELIVERED in no state, and holds a disabled line alone (R106). -/
theorem LineAccount.raise (h : LineAccount n p ln) : LineAccount n p ln.raise := by
  obtain ⟨hdelivered, hagain, hheld, hrelease⟩ := h
  unfold Line.raise
  split
  case h_1 hidle =>
    rw [hidle] at hdelivered hagain
    cases hen : ln.enable
    · exact ⟨by simpa using hdelivered, fun ha => (nomatch hagain ha), fun _ => rfl, hrelease⟩
    · exact ⟨by simpa using hdelivered, fun ha => (nomatch hagain ha), nofun, hrelease⟩
  case h_2 | h_3 => exact ⟨hdelivered, hagain, hheld, hrelease⟩
  case h_4 hd => exact ⟨hdelivered, fun _ => hd, hheld, hrelease⟩

/-- A loss of its branch takes no line out of DELIVERED (R83). -/
theorem LineAccount.lose (h : LineAccount n p ln) : LineAccount n p ln.lose := by
  obtain ⟨hdelivered, hagain, hheld, hrelease⟩ := h
  unfold Line.lose
  split
  case h_1 => exact ⟨hdelivered, nofun, hheld, hrelease⟩
  all_goals
    rename_i hst
    rw [hst] at hdelivered hagain
    exact ⟨by simpa using hdelivered, fun ha => (nomatch hagain ha), nofun, hrelease⟩

/-- At a trunk reset, which clears the Delivery List, no line stays DELIVERED (R126). -/
theorem LineAccount.trunkReset (h : LineAccount n p ln) : LineAccount n False ln.trunkReset := by
  obtain ⟨-, hagain, hheld, hrelease⟩ := h
  unfold Line.trunkReset
  split
  case h_1 => exact ⟨by simp, nofun, nofun, hrelease⟩
  all_goals
    rename_i hst
    exact ⟨by simp [hst], fun ha => (nomatch hst.symm.trans (hagain ha)), hheld, hrelease⟩

/-- An acknowledged line is PENDING or IDLE, its again mark clear (R119). -/
theorem LineAccount.acknowledge (h : LineAccount n p ln) : LineAccount n False ln.acknowledge := by
  unfold Line.acknowledge
  cases ln.again <;> exact ⟨by simp, nofun, nofun, h.release⟩

/-- A line that is selected is DELIVERED, its again mark clear (R113). -/
theorem LineAccount.deliver (h : LineAccount n p ln) : LineAccount n True { ln with state := .delivered, again := false } :=
  ⟨by simp, nofun, nofun, h.release⟩

/-- A loaded line keeps its place; a HELD line that is enabled becomes PENDING (R124). -/
theorem LineAccount.load {o : LoadLineOperands} (hrelease : 48 ≤ n.val → o.release = false) (h : LineAccount n p ln) :
    LineAccount n p (o.apply ln) := by
  obtain ⟨hdelivered, hagain, -, -⟩ := h
  unfold LoadLineOperands.apply
  split
  case isTrue hpending =>
    obtain ⟨hst, -⟩ := hpending
    rw [hst] at hdelivered hagain
    exact ⟨by simpa using hdelivered, fun ha => (nomatch hagain ha), nofun, hrelease⟩
  case isFalse hkept => exact ⟨hdelivered, hagain, fun hh => Bool.eq_false_iff.mpr fun he => hkept ⟨hh, he⟩, hrelease⟩

end

/-- The operands of LOAD-LINE give an internal line no release (R123). -/
theorem loadLineOperands_release {ws : List Word} {o : LoadLineOperands} (h : LoadLineOperands.read ws = some o) :
    48 ≤ o.line.val → o.release = false := by
  unfold LoadLineOperands.read at h
  split at h
  · split at h
    · split at h
      · cases h
        intro hn
        exact Bool.and_eq_false_imp.mpr fun _ => decide_eq_false (not_lt.mpr hn)
      · cases h
    · cases h
  · cases h

/-! ## The agreement -/

/-- Only the lines of the records are read of the Delivery List. -/
theorem noticesOk_congr {s t : State} (hs : NoticesOk s) (hd : t.listed = s.listed) (hl : t.lines = s.lines) : NoticesOk t := by
  rw [noticesOk_iff] at hs ⊢
  rwa [hd, hl]

theorem noticesOk_readsOnly : ReadsOnly [.lines, .deliveries] NoticesOk := fun s t h hs =>
  noticesOk_congr hs (congrArg (List.map Delivery.line) (h .deliveries (by simp))) (h .lines (by simp))

theorem noticesOk_of_eq {s t : State} (hs : NoticesOk s) (hd : t.deliveries = s.deliveries) (hl : t.lines = s.lines) :
    NoticesOk t :=
  noticesOk_congr hs (congrArg (List.map Delivery.line) hd) hl

theorem noticesOk_of_frame {ks : List Block} {s t : State} (hs : NoticesOk s) (h : SameBut ks s t)
    (hk : ∀ k ∈ [Block.lines, .deliveries], k ∉ ks) : NoticesOk t :=
  noticesOk_readsOnly.keep h hk hs

/-- What keeps the account of one line keeps the agreement when that line is written. -/
theorem setLine_noticesOk {s : State} {n : LineId} {ln : Line} (hs : NoticesOk s)
    (h : LineAccount n (n ∈ s.listed) s.lines[n] → LineAccount n (n ∈ s.listed) ln) : NoticesOk (s.setLine n ln) := by
  rw [noticesOk_iff] at hs ⊢
  obtain ⟨hlength, hnodup, hlines⟩ := hs
  refine ⟨hlength, hnodup, fun m => ?_⟩
  by_cases hm : m = n
  · subst hm
    rw [setLine_self]
    exact h (hlines m)
  · rw [setLine_other s n ln m hm]
    exact hlines m

/-- An empty list agrees with lines none of which is DELIVERED. -/
theorem noticesOk_of_empty {s : State} (hd : s.deliveries = []) (hl : ∀ n : LineId, LineAccount n False s.lines[n]) :
    NoticesOk s := by
  have hlisted : s.listed = [] := congrArg (List.map Delivery.line) hd
  rw [noticesOk_iff, hlisted]
  exact ⟨Nat.zero_le _, List.nodup_nil, fun n => by simpa using hl n⟩

/-- A record that leaves the list takes its line out of DELIVERED; the other lines and records stand. -/
theorem noticesOk_remove {s : State} {pre post : List Delivery} {d : Delivery} {ln : Line} (hs : NoticesOk s)
    (hd : s.deliveries = pre ++ d :: post) (h : LineAccount d.line False ln) :
    NoticesOk ({ s with deliveries := pre ++ post }.setLine d.line ln) := by
  have hperm : s.listed.Perm (d.line :: (pre ++ post).map Delivery.line) := by
    rw [State.listed, hd]
    exact List.perm_middle.map Delivery.line
  rw [noticesOk_iff] at hs
  obtain ⟨hlength, hnodup, hlines⟩ := hs
  rw [hperm.length_eq, List.length_cons] at hlength
  obtain ⟨hleft, hrest⟩ := List.nodup_cons.mp (hperm.nodup_iff.mp hnodup)
  refine (noticesOk_iff _).mpr ⟨Nat.le_of_succ_le hlength, hrest, fun m => ?_⟩
  by_cases hm : m = d.line
  · subst hm
    rw [setLine_self]
    exact h.congr (iff_false_intro hleft).symm
  · rw [setLine_other _ _ _ m hm]
    have hlisted : m ∈ s.listed ↔ m ∈ (pre ++ post).map Delivery.line := by rw [hperm.mem_iff, List.mem_cons, or_iff_right hm]
    exact (hlines m).congr hlisted

/-- A line that is not DELIVERED may be selected while a place is free (R111, R113). -/
theorem deliver_noticesOk {s : State} {n : LineId} (hs : NoticesOk s) (hroom : s.deliveries.length < Config.deliveryCapacity)
    (hn : s.lines[n].state ≠ .delivered) : NoticesOk (s.deliver n) := by
  have hlisted : (s.deliver n).listed = s.listed ++ [n] := by simp [State.listed]
  rw [noticesOk_iff] at hs ⊢
  obtain ⟨-, hnodup, hlines⟩ := hs
  have hnew : n ∉ s.listed := fun hm => hn ((hlines n).delivered.mpr hm)
  rw [hlisted]
  refine ⟨by simpa [State.listed] using hroom, List.nodup_append.mpr ⟨hnodup, List.nodup_singleton n, ?_⟩, fun m => ?_⟩
  · intro a ha b hb hab
    exact hnew (List.mem_singleton.mp hb ▸ hab ▸ ha)
  · by_cases hm : m = n
    · subst hm
      rw [State.deliver_lines, Fin.getElem_fin, Vector.getElem_set_self]
      exact (hlines m).deliver.congr (iff_true_intro (List.mem_append_right s.listed (List.mem_singleton_self m))).symm
    · have hline : (s.deliver n).lines[m] = s.lines[m] := setLine_other s n _ m hm
      have hmem : m ∈ s.listed ++ [n] ↔ m ∈ s.listed := by simp [hm]
      rw [hline]
      exact (hlines m).congr hmem.symm

end Sys2Proof.Machine
end

section
/-! What the attention path, the losses and the trunk reset do to the Delivery List and the Line Table (R83, R106, R126, R188, R192),
and the Notice Arbiter's choice (R112). -/

namespace Sys2Proof.Machine

open Sys2Proof.Safety

/-! ## The Notice Arbiter's choice -/

/-- The line is one that the arbiter chooses among: PENDING, and a branch line unless no branch line is PENDING (R112). -/
def State.Contends (s : State) (n : LineId) : Prop :=
  s.lines[n].state = .pending ∧ (n.val < 48 ∨ ∀ m : LineId, s.lines[m].state = .pending → 48 ≤ m.val)

/-- The arbiter searches the lines that contend for one that no other precedes. -/
theorem chosenLine_eq (s : State) : ∃ p : LineId → Bool, (∀ n, p n = true ↔ s.Contends n) ∧
    s.chosenLine = ((List.finRange 56).filter p).find? fun n =>
      ((List.finRange 56).filter p).all fun m => decide (s.lines[m].priority.toNat ≤ s.lines[n].priority.toNat) := by
  unfold State.chosenLine State.Contends
  dsimp only
  split
  case isTrue hnone =>
    refine ⟨_, fun n => ?_, rfl⟩
    have hinternal (m : LineId) (hm : s.lines[m].state = .pending) : 48 ≤ m.val := by
      rw [List.isEmpty_iff, List.filter_eq_nil_iff] at hnone
      simpa using hnone m (by simpa using hm)
    rw [decide_eq_true_iff]
    exact ⟨fun hn => ⟨hn, .inr hinternal⟩, And.left⟩
  case isFalse hsome =>
    rw [List.filter_filter]
    refine ⟨_, fun n => ?_, rfl⟩
    obtain ⟨m, hm⟩ := List.exists_mem_of_ne_nil _ fun h => hsome (List.isEmpty_iff.mpr h)
    obtain ⟨hpending, hbranch⟩ : s.lines[m].state = .pending ∧ m.val < 48 := by simpa [and_comm] using hm
    rw [Bool.and_eq_true, decide_eq_true_iff, decide_eq_true_iff, and_comm]
    exact and_congr_right fun _ => (or_iff_left fun h => absurd hbranch (not_lt.mpr (h m hpending))).symm

/-- The line contends, and no line that does has a higher priority (R112). -/
def State.Leads (s : State) (n : LineId) : Prop :=
  s.Contends n ∧ ∀ m : LineId, s.Contends m → s.lines[m].priority.toNat ≤ s.lines[n].priority.toNat

/-- The line chosen is the lowest of those of the highest priority (R112). -/
theorem chosenLine_eq_some_iff (s : State) (n : LineId) :
    s.chosenLine = some n ↔ s.Leads n ∧ ∀ j : LineId, j < n → ¬s.Leads j := by
  obtain ⟨p, hp, hchosen⟩ := chosenLine_eq s
  have hleads (k : LineId) : (p k = true ∧ (((List.finRange 56).filter p).all fun m =>
      decide (s.lines[m].priority.toNat ≤ s.lines[k].priority.toNat)) = true) ↔ s.Leads k := by
    rw [List.all_eq_true, State.Leads, hp]
    simp only [List.mem_filter, List.mem_finRange, true_and, hp, decide_eq_true_iff]
  rw [hchosen, List.find?_filter, find?_finRange_eq_some]
  simp only [hleads, decide_eq_true_iff, decide_eq_false_iff_not]

/-- The line chosen is PENDING (R111). -/
theorem chosenLine_pending {s : State} {n : LineId} (h : s.chosenLine = some n) : s.lines[n].state = .pending := by
  obtain ⟨⟨⟨hpending, -⟩, -⟩, -⟩ := (chosenLine_eq_some_iff s n).mp h
  exact hpending

/-! ## The attention path -/

theorem raise_noticesOk {s : State} (n : LineId) (hs : NoticesOk s) : NoticesOk (s.raise n) := by
  have hraise {u : State} (hu : NoticesOk u) (m : LineId) : NoticesOk (u.setLine m u.lines[m].raise) :=
    setLine_noticesOk hu LineAccount.raise
  have hcount {u : State} (hu : NoticesOk u) : NoticesOk u.countCoalesced := by
    have hcounted (k : Counters) : NoticesOk { u with counters := k } := noticesOk_of_eq hu rfl rfl
    unfold State.countCoalesced
    dsimp only
    split
    · exact hraise (hcounted _) _
    · exact hcounted _
  unfold State.raise
  dsimp only
  split
  · exact hcount (hraise hs n)
  · exact hraise hs n

/-- A count writes its counter and may raise I6 (R192). -/
theorem count_noticesOk {s : State} (x : Bool) (k : Counters) (hs : NoticesOk s) :
    NoticesOk (State.signalIf x { s with counters := k }) := by
  have hcounted : NoticesOk { s with counters := k } := noticesOk_of_eq hs rfl rfl
  unfold State.signalIf
  split
  · exact raise_noticesOk _ hcounted
  · exact hcounted

theorem recordFault_noticesOk {s : State} (f : FaultRecord) (hs : NoticesOk s) : NoticesOk (s.recordFault f) := by
  unfold State.recordFault
  split
  · exact raise_noticesOk _ (noticesOk_of_eq hs rfl rfl)
  · exact raise_noticesOk _ (count_noticesOk _ _ hs)

/-! ## Losses and trunk reset -/

theorem setBranch_noticesOk {s : State} (b : BranchId) (br : Branch) (hs : NoticesOk s) : NoticesOk (s.setBranch b br) :=
  noticesOk_of_frame hs (setBranch_frame s b br) (by decide)

theorem lose_noticesOk {s : State} (b : BranchId) (st : BranchState) (hs : NoticesOk s) : NoticesOk (s.lose b st) := by
  have hlisted : (s.lose b st).listed = s.listed := congrArg (List.map Delivery.line) (State.lose_deliveries s b st)
  rw [noticesOk_iff] at hs ⊢
  obtain ⟨hlength, hnodup, hlines⟩ := hs
  rw [hlisted]
  refine ⟨hlength, hnodup, fun n => ?_⟩
  have hline : (s.lose b st).lines[n] = if onBranch b n then s.lines[n].lose else s.lines[n] := by simp [State.lose]
  rw [hline]
  split
  · exact (hlines n).lose
  · exact hlines n

theorem lossBy_noticesOk {s : State} (b : BranchId) (cause : LossCause) (hs : NoticesOk s) : NoticesOk (s.lossBy b cause) :=
  recordFault_noticesOk _ (raise_noticesOk _ (lose_noticesOk b _ hs))

theorem branchCheckFails_noticesOk {s : State} (b : BranchId) (hs : NoticesOk s) : NoticesOk (s.branchCheckFails b) := by
  unfold State.branchCheckFails
  split
  · exact lossBy_noticesOk b .check (setBranch_noticesOk b _ hs)
  · exact hs

theorem trunkReset_noticesOk {s : State} (sends : Bool) (hs : NoticesOk s) : NoticesOk (s.trunkReset sends) := by
  obtain ⟨-, -, hlines⟩ := (noticesOk_iff s).mp hs
  unfold State.trunkReset
  refine count_noticesOk _ _ (noticesOk_of_empty rfl fun n => ?_)
  simpa using (hlines n).trunkReset

theorem trunkCheckFails_noticesOk {s : State} (hs : NoticesOk s) : NoticesOk s.trunkCheckFails := by
  unfold State.trunkCheckFails
  split
  · exact trunkReset_noticesOk true hs
  · exact hs

end Sys2Proof.Machine
end

section
/-! Every command keeps the Delivery List and the Line Table in agreement (R105, R106, R108, R114). -/

namespace Sys2Proof.Machine

open Sys2Proof.Safety

/-! ## The Delivery List -/

/-- An acknowledge with vector `v` removes the oldest record with it, and its line leaves DELIVERED (R118, R119). -/
theorem acknowledge_eq {s : State} {pre post : List Delivery} {d : Delivery} (h : s.deliveries = pre ++ d :: post)
    (hpre : ∀ x ∈ pre, x.vector ≠ d.vector) : s.acknowledge d =
      State.markRelease d.line ({ s with deliveries := pre ++ post }.setLine d.line s.lines[d.line].acknowledge) := by
  have herase : s.deliveries.eraseP (fun x => decide (x.vector = d.vector)) = pre ++ post := by
    rw [h, List.eraseP_append_right _ (by simpa using hpre), List.eraseP_cons_of_pos (by simp)]
  rw [State.acknowledge, herase]

theorem takeAck_noticesOk {s : State} (v : BitVec 8) (hs : NoticesOk s) : NoticesOk (s.takeAck v) := by
  unfold State.takeAck
  split
  · exact hs
  · split
    case h_1 d hfind =>
      obtain ⟨hv, pre, post, hd, hpre⟩ := List.find?_eq_some_iff_append.mp hfind
      obtain rfl : d.vector = v := of_decide_eq_true hv
      rw [acknowledge_eq hd (by simpa using hpre)]
      obtain ⟨-, -, hlines⟩ := (noticesOk_iff s).mp hs
      exact noticesOk_of_eq (noticesOk_remove hs hd (hlines d.line).acknowledge) (by simp) (by simp)
    case h_2 => exact count_noticesOk _ _ hs

/-- An update of a record that keeps its line keeps the agreement. -/
theorem updateFirst_noticesOk {s : State} (p : Delivery → Bool) {f : Delivery → Delivery} (hf : ∀ d, (f d).line = d.line)
    (hs : NoticesOk s) : NoticesOk { s with deliveries := updateFirst p f s.deliveries } :=
  noticesOk_congr hs (updateFirst_map Delivery.line p f hf s.deliveries) rfl

theorem sendNotice_noticesOk {s : State} (hs : NoticesOk s) : Leaves NoticesOk (execSendNotice s) := by
  have hsent (deadline : Time) (k : TrunkFrame) : NoticesOk
      (State.transmit k .control { s with deliveries := updateFirst Delivery.due (Delivery.sendNow deadline) s.deliveries }) :=
    noticesOk_of_eq (updateFirst_noticesOk Delivery.due (f := Delivery.sendNow deadline) (fun _ => rfl) hs) rfl rfl
  unfold execSendNotice
  split
  · apply leaves_next
    split
    · exact count_noticesOk _ _ (hsent _ _)
    · exact hsent _ _
  · exact leaves_fault

theorem selection_noticesOk {s : State} (hs : NoticesOk s) : Leaves NoticesOk (execSelection s) := by
  unfold execSelection
  split
  case isTrue hplace =>
    obtain ⟨-, hroom⟩ := hplace
    split
    case h_1 n hn =>
      exact leaves_next (deliver_noticesOk hs hroom (by rw [chosenLine_pending hn]; decide))
    case h_2 => exact leaves_fault
  case isFalse => exact leaves_fault

/-! ## Frames received -/

theorem arrive_noticesOk {s : State} (x : IntakeFrame) (hs : NoticesOk s) : NoticesOk (s.arrive x) := by
  unfold State.arrive
  split
  · exact hs
  · split
    · exact noticesOk_of_eq hs rfl rfl
    · exact recordFault_noticesOk _ hs

theorem trunkUnexpected_noticesOk {s : State} (k : BitVec 4) (hs : NoticesOk s) : NoticesOk (s.trunkUnexpected k) := by
  unfold State.trunkUnexpected
  split
  · exact recordFault_noticesOk _ hs
  · exact hs

theorem matchedReply_noticesOk {s : State} (b : BranchId) (e : EntryId) (h : Held) (st : ReplyStatus) (data : List Word)
    (hs : NoticesOk s) : NoticesOk (s.matchedReply b e h st data) := by
  have hanswer (st : ReplyStatus) (ws : List Word) : NoticesOk (s.answerEntry e h false st ws) :=
    noticesOk_of_frame hs (answerEntry_frame s e h false st ws) (by decide)
  unfold State.matchedReply
  split
  · split
    · exact hanswer .ok data
    · exact recordFault_noticesOk _ (hanswer .targetError [])
  · exact hanswer st []

theorem replyTo_noticesOk {s : State} (b : BranchId) (e : EntryId) (st : ReplyStatus) (data : List Word) (hs : NoticesOk s) :
    NoticesOk (s.replyTo b e st data) := by
  have hstray : NoticesOk (s.strayReply b (BitVec.ofNat 6 e.val)) := recordFault_noticesOk _ hs
  have hlate (x : Entry) : NoticesOk (s.setEntry e x).countLate :=
    count_noticesOk _ _ (s := s.setEntry e x) (noticesOk_of_eq hs rfl rfl)
  unfold State.replyTo
  dsimp only
  split
  case h_1 =>
    split
    · exact matchedReply_noticesOk b e _ st data hs
    · exact hstray
  case h_2 | h_3 =>
    split
    · exact hlate _
    · exact hstray
  all_goals exact hstray

theorem takeReply_noticesOk {s : State} (b : BranchId) (t : BitVec 6) (st : ReplyStatus) (data : List Word) (hs : NoticesOk s) :
    NoticesOk (s.takeReply b t st data) := by
  unfold State.takeReply
  split
  · split
    · exact replyTo_noticesOk b _ st data hs
    · exact recordFault_noticesOk _ hs
  · exact hs

theorem takeCredit_noticesOk {s : State} (b : BranchId) (n : Nat) (hs : NoticesOk s) : NoticesOk (s.takeCredit b n) := by
  unfold State.takeCredit
  dsimp only
  split
  · split
    · exact setBranch_noticesOk b _ hs
    · exact recordFault_noticesOk _ (setBranch_noticesOk b _ hs)
  · exact hs

theorem takeNotice_noticesOk {s : State} (b : BranchId) (v : BitVec 8) (hs : NoticesOk s) : NoticesOk (s.takeNotice b v) := by
  unfold State.takeNotice
  split
  · split
    · exact raise_noticesOk _ hs
    · exact recordFault_noticesOk _ hs
  · exact hs

theorem takeWithdraw_noticesOk {s : State} (b : BranchId) (hs : NoticesOk s) : NoticesOk (s.takeWithdraw b) := by
  unfold State.takeWithdraw
  split
  case h_1 | h_2 | h_3 => exact raise_noticesOk _ (setBranch_noticesOk b _ hs)
  case h_4 => exact recordFault_noticesOk _ hs
  all_goals exact hs

theorem takeReturn_noticesOk {s : State} (b : BranchId) (hs : NoticesOk s) : NoticesOk (s.takeReturn b) := by
  unfold State.takeReturn
  split
  case h_1 => exact raise_noticesOk _ (setBranch_noticesOk b _ hs)
  case h_2 | h_3 | h_4 => exact recordFault_noticesOk _ hs
  all_goals exact hs

theorem branchUnexpected_noticesOk {s : State} (b : BranchId) (k : BitVec 4) (hs : NoticesOk s) :
    NoticesOk (s.branchUnexpected b k) := by
  unfold State.branchUnexpected
  split
  · exact recordFault_noticesOk _ hs
  · exact hs

/-! ## The other commands -/

theorem trunkUp_noticesOk {s : State} (hs : NoticesOk s) : NoticesOk s.trunkUp := by
  have hup (k : Trunk) (n : Nat) : NoticesOk { s with trunk := k, acc := n } := noticesOk_of_eq hs rfl rfl
  unfold State.trunkUp
  dsimp only
  split
  · exact raise_noticesOk _ (hup _ _)
  · exact hup _ _

theorem routeExamination_noticesOk {s : State} (hs : NoticesOk s) : Leaves NoticesOk (execRouteExamination s) := by
  have htaken (rest : List IntakeFrame) : NoticesOk { s with intake := rest } := noticesOk_of_eq hs rfl rfl
  unfold execRouteExamination
  split
  · apply leaves_next
    split
    · unfold State.refuse
      split
      · exact recordFault_noticesOk _ (noticesOk_of_eq hs rfl rfl)
      · exact noticesOk_of_eq hs rfl rfl
    · exact recordFault_noticesOk _ (noticesOk_of_eq hs rfl rfl)
    · exact hs
    · exact noticesOk_of_frame (htaken _) (routeVia_frame _ _ _) (by decide)
  · exact leaves_fault

theorem loadLine_noticesOk {s : State} {ws : List Word} {o : LoadLineOperands} (c : Control)
    (ho : LoadLineOperands.read ws = some o) (hs : NoticesOk s) :
    NoticesOk ((s.setLine o.line (o.apply s.lines[o.line])).answerNow c .done []) :=
  noticesOk_of_eq (setLine_noticesOk hs (LineAccount.load (loadLineOperands_release ho))) rfl rfl

theorem resetBranch_noticesOk {s : State} (c : Control) (b : BranchId) (hs : NoticesOk s) : NoticesOk (s.resetBranch c b) := by
  have hwork : NoticesOk (s.resetWork c.seq b) := by
    have haborted : NoticesOk (s.complete (abortFence b)) := noticesOk_of_eq hs rfl rfl
    unfold State.resetWork
    dsimp only
    split
    · exact recordFault_noticesOk _ (noticesOk_of_eq (lose_noticesOk b .resetting haborted) rfl rfl)
    · exact haborted
  unfold State.resetBranch
  split
  · exact noticesOk_of_eq hs rfl rfl
  · split
    · exact noticesOk_of_eq hs rfl rfl
    · exact noticesOk_of_eq hwork rfl rfl

theorem branchTrained_noticesOk {s : State} (b : BranchId) (n : Nat) (hs : NoticesOk s) : NoticesOk (s.branchTrained b n) := by
  unfold State.branchTrained
  dsimp only
  split
  case h_1 => exact raise_noticesOk _ (setBranch_noticesOk b _ hs)
  case h_2 => exact raise_noticesOk _ (noticesOk_of_eq hs rfl rfl)
  all_goals exact hs

/-! ## Every command -/

theorem powerOn_noticesOk (p : Bool) (ps : Vector Bool 6) (q : List Instr) : NoticesOk (State.powerOn p ps q) :=
  noticesOk_of_empty rfl fun n => by
    rw [powerOn_lines]
    exact .powerOn n

/-- Every command keeps the Delivery List and the Line Table in agreement. -/
theorem exec_noticesOk (c : Instr) {s : State} (hs : NoticesOk s) : Leaves NoticesOk (exec c s) := by
  by_cases hw : ∀ k ∈ [Block.lines, .deliveries], k ∉ writes c
  · exact exec_keeps_of_frame noticesOk_readsOnly hs hw
  cases c <;> simp only [exec]
  case powerOnReset => exact leaves_next (powerOn_noticesOk _ _ _)
  case trunkTrainingComplete =>
    refine leaves_next ?_
    split
    · exact trunkUp_noticesOk hs
    · exact hs
  case trunkCheckFailure => exact leaves_next (trunkCheckFails_noticesOk hs)
  case trunkResetSequenceReceived =>
    refine leaves_next ?_
    split
    · exact trunkReset_noticesOk false hs
    · exact hs
  case trunkPartnerLost =>
    refine leaves_next ?_
    split
    · exact trunkReset_noticesOk false (noticesOk_of_eq hs rfl rfl)
    all_goals exact noticesOk_of_eq hs rfl rfl
  case intakeArrival f => exact leaves_takeFrame (arrive_noticesOk _ hs) (trunkCheckFails_noticesOk hs)
  case noticeAck f => exact leaves_takeFrame (takeAck_noticesOk _ hs) (trunkCheckFails_noticesOk hs)
  case trunkCreditReceived f => exact leaves_takeFrame hs (trunkCheckFails_noticesOk hs)
  case trunkUnexpectedFrame f => exact leaves_takeFrame (trunkUnexpected_noticesOk _ hs) (trunkCheckFails_noticesOk hs)
  case sendNotice => exact sendNotice_noticesOk hs
  case routeExamination => exact routeExamination_noticesOk hs
  case loadLine =>
    exact leaves_command noticesOk_readsOnly (by decide) (by decide) hs fun c o u ho hu => loadLine_noticesOk c ho hu
  case resetBranch =>
    exact leaves_command noticesOk_readsOnly (by decide) (by decide) hs fun c b u _ hu => resetBranch_noticesOk c b hu
  case branchTrainingComplete b capacity =>
    refine leaves_next ?_
    split
    · exact hs
    · exact branchTrained_noticesOk b _ hs
  case branchPartnerLost b =>
    refine leaves_next ?_
    split
    · exact lossBy_noticesOk b .signalLost (setBranch_noticesOk b _ hs)
    · exact setBranch_noticesOk b _ hs
  case branchCheckFailure b => exact leaves_next (branchCheckFails_noticesOk b hs)
  case branchResetSequenceReceived b =>
    refine leaves_next ?_
    split
    · exact lossBy_noticesOk b .partnerReset hs
    · exact hs
  case stallTimerExpiry b => exact leaves_guard fun _ => lossBy_noticesOk b .stall (setBranch_noticesOk b _ hs)
  case branchReply b f => exact leaves_takeFrame (takeReply_noticesOk b _ _ _ hs) (branchCheckFails_noticesOk b hs)
  case branchCredit b f => exact leaves_takeFrame (takeCredit_noticesOk b _ hs) (branchCheckFails_noticesOk b hs)
  case branchNotice b f => exact leaves_takeFrame (takeNotice_noticesOk b _ hs) (branchCheckFails_noticesOk b hs)
  case withdraw b f => exact leaves_takeFrame (takeWithdraw_noticesOk b hs) (branchCheckFails_noticesOk b hs)
  case unitReturn b f => exact leaves_takeFrame (takeReturn_noticesOk b hs) (branchCheckFails_noticesOk b hs)
  case branchUnexpectedFrame b f =>
    exact leaves_takeFrame (branchUnexpected_noticesOk b _ hs) (branchCheckFails_noticesOk b hs)
  case resendDeadlineExpiry n => exact leaves_guard fun _ => updateFirst_noticesOk _ (fun _ => rfl) hs
  case selection => exact selection_noticesOk hs
  all_goals simp [writes, controlAnswerBlocks, entryAnswerBlocks, completionBlocks] at hw

/-- Settles O54: every command keeps the account of every line, and a microsecond touches none. -/
theorem invariantNotices : Obligations.InvariantNotices := fun _ t hs h =>
  step_keeps noticesOk_readsOnly (by decide) (fun c _ => exec_noticesOk c) hs t h

end Sys2Proof.Machine
end

section
/-! The attention path in the terms of its rules (R106, R188, R192): the raise of a line, the counters with the raise of I6, and the
taking of a fault record. -/

namespace Sys2Proof.Machine

open Sys2Proof.Safety

/-! ## The raise of a line -/

/-- An IDLE line is raised and nothing is counted (R106). -/
theorem raise_of_idle {s : State} {n : LineId} (h : s.lines[n].state = .idle) :
    s.raise n = s.setLine n s.lines[n].raise := by
  rw [State.raise, Line.coalesces, h]
  rfl

/-- In HELD, PENDING and DELIVERED a raise is counted as coalesced (R106). -/
theorem raise_of_not_idle {s : State} {n : LineId} (h : s.lines[n].state ≠ .idle) :
    s.raise n = (s.setLine n s.lines[n].raise).countCoalesced := by
  rw [State.raise, Line.coalesces, decide_eq_true h]
  rfl

/-- The coalesced raise that saturates its counter raises I6 at the line itself (R192). -/
theorem countCoalesced_lines (s : State) : s.countCoalesced.lines =
    if s.counters.coalesced = 65534 then s.lines.set (internalLine 6) s.lines[internalLine 6].raise else s.lines := by
  simp only [State.countCoalesced, saturates_eq, decide_eq_true_iff]
  split <;> rfl

/-- A raise counts in the counter of coalesced raises alone. -/
theorem raise_counters (n : LineId) (s : State) : ∃ k : Nat, (s.raise n).counters = { s.counters with coalesced := k } := by
  by_cases h : s.lines[n].state = .idle
  · exact ⟨_, by rw [raise_of_idle h]; rfl⟩
  · exact ⟨_, by rw [raise_of_not_idle h, countCoalesced_counters]; rfl⟩

/-! ## The counters -/

/-- The increment from 65534 raises I6 (R192). -/
theorem signalIf_saturates (n : Nat) (s : State) :
    State.signalIf (saturates n) s = if n = 65534 then s.raise (internalLine 6) else s := by
  simp only [State.signalIf, saturates_eq, decide_eq_true_iff]
  rfl

/-- The raise that a saturating count brings counts in the counter of coalesced raises alone. -/
theorem signalIf_counters (x : Bool) (s : State) :
    ∃ k : Nat, (s.signalIf x).counters = { s.counters with coalesced := k } := by
  unfold State.signalIf
  split
  · exact raise_counters _ s
  · exact ⟨_, rfl⟩

theorem countStrayAck_strayAcks (s : State) : s.countStrayAck.counters.strayAcks = bump s.counters.strayAcks := by
  obtain ⟨k, hk⟩ := signalIf_counters (saturates s.counters.strayAcks)
    { s with counters := { s.counters with strayAcks := bump s.counters.strayAcks } }
  rw [State.countStrayAck, hk]

theorem countResend_resends (s : State) : s.countResend.counters.resends = bump s.counters.resends := by
  obtain ⟨k, hk⟩ := signalIf_counters (saturates s.counters.resends)
    { s with counters := { s.counters with resends := bump s.counters.resends } }
  rw [State.countResend, hk]

/-! ## Trunk reset -/

theorem line_trunkReset_eq (ln : Line) :
    ln.trunkReset = if ln.state = .delivered then { ln with state := .pending, again := false } else ln := by
  unfold Line.trunkReset
  split
  case h_1 hd => rw [if_pos hd]
  all_goals exact (if_neg (by simp [*])).symm

/-- The attention blocks after a trunk reset: DELIVERED lines are PENDING again, and the reset is counted (R126, R164). -/
theorem trunkReset_attention {s u : State} (h : AttentionOf s u) (sends : Bool) :
    AttentionOf (State.signalIf (saturates s.counters.trunkResets) { s with
      lines := Vector.ofFn fun n =>
        if s.lines[n].state = .delivered then { s.lines[n] with state := .pending, again := false } else s.lines[n]
      counters := { s.counters with trunkResets := bump s.counters.trunkResets } }) (u.trunkReset sends) := by
  obtain ⟨hfaults, hlines, hcounters⟩ := h
  unfold State.trunkReset State.countTrunkReset
  rw [hcounters, hlines]
  simp only [line_trunkReset_eq]
  exact attention_signalIf _ ⟨hfaults, rfl, rfl⟩

/-- Each of the three causes resets an UP trunk, the partner signal apart (R162). -/
theorem exec_trunkResetCause {c : Instr} {s : State} (hc : c ∈ trunkResetCauses) (hup : s.trunk.state = .up) :
    ∃ (u : State) (sends : Bool), AttentionOf s u ∧ exec c s = .next (u.trunkReset sends) := by
  simp only [trunkResetCauses, List.mem_cons, List.not_mem_nil, or_false] at hc
  rcases hc with rfl | rfl | rfl
  · exact ⟨s, true, ⟨rfl, rfl, rfl⟩, congrArg _ (if_pos hup)⟩
  · exact ⟨s, false, ⟨rfl, rfl, rfl⟩, congrArg _ (if_pos hup)⟩
  · refine ⟨{ s with trunk := { s.trunk with partner := false } }, false, ⟨rfl, rfl, rfl⟩, ?_⟩
    simp only [exec, execTrunkPartnerLost, hup]

/-- Settles O50: the raise by whether the line is IDLE, the counts and the fault record by their definitions, and the trunk reset as
each of its causes makes it. -/
theorem attentionRules : Obligations.AttentionRules := by
  unfold Obligations.AttentionRules
  intro up raised signalled
  have hraised (ln : Line) : raised ln = ln.raise := by
    obtain ⟨_, _, _, _, st, _⟩ := ln
    cases st <;> rfl
  refine ⟨fun n s => ?_, fun k s => ⟨rfl, rfl⟩, fun s => ?_, fun c s hc hup => ?_, fun f s => ⟨fun h => ?_, fun h => ?_⟩⟩
  · simp only [hraised]
    refine ⟨by simp [sameBut_iff], fun h => ?_, fun h => ?_⟩
    · rw [raise_of_idle h]
      exact ⟨rfl, rfl⟩
    · rw [raise_of_not_idle h]
      exact ⟨countCoalesced_counters _, countCoalesced_lines _⟩
  · exact ⟨signalIf_saturates _ _, signalIf_saturates _ _, signalIf_saturates _ _⟩
  · obtain ⟨u, sends, hu, hexec⟩ := exec_trunkResetCause hc hup
    refine ⟨_, hexec, ?_⟩
    have hattention := trunkReset_attention hu sends
    rw [signalIf_saturates] at hattention
    exact hattention
  · exact if_pos h
  · rw [State.recordFault, if_neg (c := s.faults.length < Config.faultCapacity) (not_lt.mpr h), State.countOverflow, signalIf_saturates]
    rfl

end Sys2Proof.Machine
end

section
/-! NOTICE-ACK (R118, R119), the NOTICE of a branch (R107) and the send of a NOTICE (R116). -/

namespace Sys2Proof.Machine

open Sys2Proof.Safety

/-! ## Release marks -/

/-- A line (b, l) is the line l of branch b (R103). -/
theorem lineBranch_branchLine (b : BranchId) (l : Fin 8) : lineBranch (branchLine b l) = some (b, l) := by
  have hn : (branchLine b l).val < 48 := by simp only [branchLine]; omega
  rw [lineBranch, dif_pos hn]
  simp only [branchLine, Option.some.injEq, Prod.mk.injEq, Fin.ext_iff]
  omega

/-- An internal line belongs to no branch (R103). -/
theorem lineBranch_internal {n : LineId} (h : 48 ≤ n.val) : lineBranch n = none := dif_neg (not_lt.mpr h)

theorem markRelease_internal {n : LineId} (h : 48 ≤ n.val) (s : State) : s.markRelease n = s := by
  simp only [State.markRelease, lineBranch_internal h]

/-- The release mark of a branch line is set when its release field is on and its branch is in service (R68, R119). -/
theorem markRelease_branchLine {s : State} {n : LineId} {b : BranchId} {l : Fin 8} (hn : n = branchLine b l)
    (h : TimerOk s.branches[b]) : OtherBranches b s (s.markRelease n) ∧ (s.markRelease n).branches[b] =
      if s.lines[n].release = true ∧ s.branches[b].state.inService = true then
        { s.branches[b] with releaseMarks := s.branches[b].releaseMarks.set l true }
      else s.branches[b] := by
  have hmark : s.markRelease n =
      if s.lines[n].release = true ∧ s.branches[b].state.inService = true then
        s.setBranch b { s.branches[b] with releaseMarks := s.branches[b].releaseMarks.set l true }
      else s := by
    simp only [State.markRelease, hn, lineBranch_branchLine, Bool.and_eq_true]
  rw [hmark]
  split
  · exact ⟨setBranch_other s b _, setBranch_self_of_timerOk h⟩
  · exact ⟨fun _ _ => rfl, rfl⟩

/-! ## NOTICE-ACK -/

section
variable {s : State} {v : BitVec 8}

/-- An acknowledge of a vector that is on the list removes its oldest record (R118). -/
theorem takeAck_matched {pre post : List Delivery} {d : Delivery} (hup : s.trunk.state = .up)
    (h : s.deliveries = pre ++ d :: post) (hd : d.vector = v) (hpre : ∀ x ∈ pre, x.vector ≠ v) : s.takeAck v =
      State.markRelease d.line ({ s with deliveries := pre ++ post }.setLine d.line s.lines[d.line].acknowledge) := by
  subst hd
  have hfind : s.deliveries.find? (fun x => decide (x.vector = d.vector)) = some d :=
    List.find?_eq_some_iff_append.mpr ⟨by simp, pre, post, h, by simpa using hpre⟩
  rw [State.takeAck, if_neg (not_not.mpr hup), hfind]
  exact acknowledge_eq h hpre

/-- An acknowledge of a vector that is not on the list is a stray (R118). -/
theorem takeAck_stray (hup : s.trunk.state = .up) (h : ∀ x ∈ s.deliveries, x.vector ≠ v) : s.takeAck v = s.countStrayAck := by
  have hfind : s.deliveries.find? (fun x => decide (x.vector = v)) = none := List.find?_eq_none.mpr (by simpa using h)
  rw [State.takeAck, if_neg (not_not.mpr hup), hfind]

end

/-- Settles O11: the oldest record with the vector leaves, or there is none and the acknowledge is counted. -/
theorem noticeAckMatches : Obligations.NoticeAckMatches := by
  intro f s hrow hsize hup hports
  have hexec : exec (.noticeAck f) s = .next (s.takeAck f.lineOrVector) := takeFrame_good hrow hsize
  rw [hexec]
  refine ⟨fun pre post d h hd hpre => ?_, fun h => ?_⟩
  · rw [takeAck_matched hup h hd hpre]
    refine ⟨_, rfl, ?_, ?_, fun m hm => ?_, ?_, fun b l hline => ?_, fun hline => ?_⟩
    · rw [State.markRelease_deliveries]
      rfl
    · rw [State.markRelease_lines, setLine_self]
      rfl
    · rw [State.markRelease_lines]
      exact setLine_other s d.line _ m hm
    · simp [sameBut_iff]
    · have hmarked := markRelease_branchLine hline
        (s := { s with deliveries := pre ++ post }.setLine d.line s.lines[d.line].acknowledge) (portsOk_timerOk hports b)
      rw [setLine_self] at hmarked
      exact hmarked
    · rw [markRelease_internal hline]
      rfl
  · rw [takeAck_stray hup h]
    exact ⟨_, rfl, ⟨rfl, rfl, rfl⟩, by simp [sameBut_iff], countStrayAck_strayAcks s⟩

/-! ## The NOTICE of a branch -/

section
variable {s : State} {b : BranchId} {v : BitVec 8} (hin : s.branches[b].state.inService = true)
include hin

/-- A line value of 0..7 raises the line of the branch (R107). -/
theorem takeNotice_line {l : Fin 8} (hv : v.toNat = l.val) : s.takeNotice b v = s.raise (branchLine b l) := by
  rw [State.takeNotice, if_pos hin, dif_pos (hv ▸ l.isLt)]
  simp only [hv]

/-- A line value above 7 names no line and is recorded (R107). -/
theorem takeNotice_bad (hv : 8 ≤ v.toNat) : s.takeNotice b v =
    s.recordFault { kind := .badNotice, timestamp := s.timeBase, branch := some b, count := some v.toNat } := by
  rw [State.takeNotice, if_pos hin, dif_neg (not_lt.mpr hv)]

end

/-- Settles O43, by the state of the branch and the line value. -/
theorem branchNoticeFrame : Obligations.BranchNoticeFrame := by
  intro b f s hrow hsize
  have hexec : exec (.branchNotice b f) s = .next (s.takeNotice b f.lineOrVector) := takeFrame_good hrow hsize
  rw [hexec]
  refine ⟨fun hout => ?_, fun hin => ⟨fun l hl => ?_, fun hbad => ?_⟩⟩
  · rw [takeNotice_out ((outOfService_iff _).mpr (.inr hout))]
  · rw [takeNotice_line hin hl]
    exact ⟨_, rfl, ⟨rfl, rfl, rfl⟩, by simp [sameBut_iff]⟩
  · rw [takeNotice_bad hin hbad]
    exact ⟨_, rfl, ⟨rfl, rfl, rfl⟩, recordFault_frame _ s⟩

/-! ## The send of a NOTICE -/

/-- A record that is not SENT waits to be sent (R115). -/
theorem due_iff (d : Delivery) : d.due = true ↔ ∀ u : Time, d.send ≠ .sent u := by
  unfold Delivery.due
  cases d.send <;> simp

/-- A count that holds at 65535, made under a condition. -/
theorem bump_if (p : Prop) [Decidable p] (n : Nat) : (if p then bump n else n) = if p ∧ n < 65535 then n + 1 else n := by
  rw [ite_and]
  rfl

/-- The send of the oldest due record (R115, R116): the record is SENT, its vector goes up, and a resend is counted. -/
theorem exec_sendNotice {s : State} {pre post : List Delivery} {d : Delivery} (hchoice : s.trunkChoice = some .notice)
    (h : s.deliveries = pre ++ d :: post) (hpre : ∀ x ∈ pre, x.due = false) (hd : d.due = true) :
    let sent := State.transmit (.notice d.vector) .control
      { s with deliveries := pre ++ d.sendNow (s.timeBase + s.timing.rsnd) :: post }
    exec .sendNotice s = .next (if d.send = .resendDue then sent.countResend else sent) := by
  have hfind : s.deliveries.find? Delivery.due = some d :=
    List.find?_eq_some_iff_append.mpr ⟨hd, pre, post, h, fun x hx => by simp [hpre x hx]⟩
  have hupdate := updateFirst_append Delivery.due (Delivery.sendNow (s.timeBase + s.timing.rsnd)) pre post d hpre hd
  rw [← h] at hupdate
  simp only [exec, execSendNotice, hchoice, hfind, hupdate]

/-- Settles O16: the oldest due record is sent, and a resend is counted in the part's counter too. -/
theorem sendOfNotice : Obligations.SendOfNotice := by
  intro pre post d s hchoice h hpre hd
  have hsent (x : Delivery) (hx : x ∈ pre) : x.due = false :=
    Bool.eq_false_iff.mpr fun hdue => (hpre x hx).elim ((due_iff x).mp hdue)
  have hrecord : d.sendNow (s.timeBase + s.timing.rsnd) = { d with
      send := .sent (s.timeBase + s.timing.rsnd)
      resends := if d.send = .resendDue ∧ d.resends < 65535 then d.resends + 1 else d.resends } := by
    rw [Delivery.sendNow, bump_if]
  rw [exec_sendNotice hchoice h hsent ((due_iff d).mpr hd), ← hrecord, ← bump_if]
  by_cases hresend : d.send = .resendDue
  · rw [if_pos hresend, if_pos hresend]
    exact ⟨_, rfl, by simp, by simp, countResend_resends _, fun _ => attention_countResend ⟨rfl, rfl, rfl⟩,
      fun hn => absurd hresend hn, by simp [sameBut_iff]⟩
  · rw [if_neg hresend, if_neg hresend]
    exact ⟨_, rfl, rfl, rfl, rfl, fun hr => absurd hr hresend, fun _ => ⟨rfl, rfl, rfl⟩, by simp [sameBut_iff]⟩

end Sys2Proof.Machine
end

section
/-! LOAD-LINE (R123, R124) and the selection of a line (R111 to R113). -/

namespace Sys2Proof.Machine

open Sys2Proof.Safety

/-! ## LOAD-LINE -/

/-- The operands of LOAD-LINE read as the configuration that they are the words of; an internal line has no release (R123). -/
theorem loadLineOperands_word (n : LineId) (en : Bool) (p : BitVec 3) (v : BitVec 8) (re : Bool) :
    LoadLineOperands.read [word n.val, flagWord en, word p.toNat, word v.toNat, flagWord re] =
      some ⟨n, en, p, v, if n.val < 48 then re else false⟩ := by
  have hn : (word n.val).toNat = n.val := word_toNat (n.isLt.trans (by decide))
  have hp : (word p.toNat).toNat = p.toNat := word_toNat (p.isLt.trans (by decide))
  have hv : (word v.toNat).toNat = v.toNat := word_toNat (v.isLt.trans (by decide))
  have hflag (b : Bool) : (flagWord b).toNat < 2 ∧ decide ((flagWord b).toNat = 1) = b := by cases b <;> decide
  have hrange : (flagWord en).toNat < 2 ∧ p.toNat < 8 ∧ v.toNat < 256 ∧ (flagWord re).toNat < 2 :=
    ⟨(hflag en).1, p.isLt, v.isLt, (hflag re).1⟩
  simp only [LoadLineOperands.read, hn, hp, hv, dif_pos n.isLt, if_pos hrange, (hflag en).2, (hflag re).2,
    BitVec.ofNat_toNat, BitVec.setWidth_eq]
  by_cases hbranch : n.val < 48 <;> simp [hbranch]

theorem exec_loadLine {s : State} {c : Control} {rest : List IntakeFrame} {o : LoadLineOperands}
    (h : s.intake = .control c :: rest) (hc : c.command = 4) (ho : LoadLineOperands.read c.operands = some o) :
    exec .loadLine s = .next (({ s with intake := rest }.setLine o.line (o.apply s.lines[o.line])).answerNow c .done []) := by
  show execLoadLine s = _
  exact takeControl_operands (operands := fun c => LoadLineOperands.read c.operands)
    (run := fun c (o : LoadLineOperands) s => (s.setLine o.line (o.apply s.lines[o.line])).answerNow c .done [])
    h (by rw [hc]; rfl) ho

/-- Settles O28: the operands read as they are given, and the line is loaded with them. -/
theorem loadLineResult : Obligations.LoadLineResult := by
  intro c rest n en p v re s h hc ho
  have hread := loadLineOperands_word n en p v re
  rw [← ho] at hread
  refine ⟨_, exec_loadLine h hc hread, ⟨rfl, rfl⟩, ?_, setLine_other s n _, by simp [sameBut_iff]⟩
  rw [State.answerNow_lines, setLine_self]
  rfl

/-! ## The selection -/

theorem exec_selection {s : State} {n : LineId} (hup : s.trunk.state = .up) (hroom : s.deliveries.length < 4)
    (hn : s.chosenLine = some n) : exec .selection s = .next (s.deliver n) := by
  have hplace : s.trunk.state = .up ∧ s.deliveries.length < Config.deliveryCapacity := ⟨hup, hroom⟩
  simp only [exec, execSelection, if_pos hplace, hn]

/-- The line that goes before every other PENDING line is chosen (R112). -/
theorem chosenLine_of_first {s : State} {n : LineId} (hn : s.lines[n].state = .pending)
    (hfirst : ∀ m : LineId, s.lines[m].state = .pending → m ≠ n →
      (n.val < 48 ∧ 48 ≤ m.val) ∨
      ((n.val < 48 ↔ m.val < 48) ∧
        (s.lines[m].priority.toNat < s.lines[n].priority.toNat ∨
          (s.lines[m].priority = s.lines[n].priority ∧ n.val < m.val)))) : s.chosenLine = some n := by
  have hcontends : s.Contends n := by
    refine ⟨hn, (lt_or_ge n.val 48).imp_right fun hinternal m hm => ?_⟩
    by_cases hmn : m = n
    · rwa [hmn]
    · rcases hfirst m hm hmn with ⟨hbranch, -⟩ | ⟨hgroup, -⟩ <;> omega
  have hafter (m : LineId) (hm : s.Contends m) (hmn : m ≠ n) :
      s.lines[m].priority.toNat < s.lines[n].priority.toNat ∨
        (s.lines[m].priority = s.lines[n].priority ∧ n.val < m.val) := by
    obtain ⟨hpending, hgroup⟩ := hm
    rcases hfirst m hpending hmn with ⟨hbranch, hinternal⟩ | ⟨-, horder⟩
    · rcases hgroup with hm | hnone
      · omega
      · exact absurd hbranch (not_lt.mpr (hnone n hn))
    · exact horder
  refine (chosenLine_eq_some_iff s n).mpr ⟨⟨hcontends, fun m hm => ?_⟩, fun j hj hleads => ?_⟩
  · by_cases hmn : m = n
    · rw [hmn]
    · rcases hafter m hm hmn with hless | ⟨hsame, -⟩
      · exact hless.le
      · rw [hsame]
  · obtain ⟨hjcontends, hmax⟩ := hleads
    rcases hafter j hjcontends hj.ne with hless | ⟨-, hlater⟩
    · exact absurd hless (not_lt.mpr (hmax n hcontends))
    · exact absurd hj (not_lt.mpr (Fin.le_def.mpr hlater.le))

/-- Settles O48: the line that goes before every other is the one the arbiter chooses, and it is delivered. -/
theorem selectionOrder : Obligations.SelectionOrder := by
  intro n s hup hroom hn hfirst
  refine ⟨_, exec_selection hup hroom (chosenLine_of_first hn hfirst), rfl, ?_, setLine_other s n _, by simp [sameBut_iff]⟩
  rw [State.deliver_lines, Fin.getElem_fin, Vector.getElem_set_self]

end Sys2Proof.Machine
end

section
/-! The trunk in service and out of it (R131, R142, R149, R182). In service the credits are accounted for, some of them in hand
while a frame that has left the intake is dealt with; out of service nothing is held. -/

namespace Sys2Proof.Machine

open Sys2Proof.Safety

/-! ## In service and out of it -/

/-- The trunk is UP and `n` credits are in hand: frames have left the intake whose credits are neither held by an answer nor
returned. With them the part holds at most 16 (R131); the operations that wait, and the completions unsent, are within their bounds
(R149, R182). -/
structure Serving (n : Nat) (s : State) : Prop where
  up : s.trunk.state = .up
  held : s.creditsHeld + n ≤ Config.intakeCapacity
  pending : s.pcl.length ≤ Config.pclCapacity
  answers : completions s + s.pcl.length ≤ Config.pclCapacity + s.acc

theorem Serving.trunkOk {s : State} (h : Serving 0 s) : TrunkOk s :=
  ⟨h.held, h.pending, h.answers, fun hdown => absurd h.up hdown⟩

theorem serving_of_up {s : State} (hs : TrunkOk s) (hup : s.trunk.state = .up) : Serving 0 s := by
  obtain ⟨hheld, hpending, hanswers, -⟩ := hs
  exact ⟨hup, hheld, hpending, hanswers⟩

/-- A part that holds nothing holds no credit, and no operation or completion waits. -/
theorem trunkOk_of_quiet {s : State} (h : Quiet s) : TrunkOk s := by
  obtain ⟨hintake, hacc, hreplies, hanswers, hpcl, -⟩ := id h
  refine ⟨?_, ?_, ?_, fun _ => h⟩ <;> simp [State.creditsHeld, completions, hintake, hacc, hreplies, hanswers, hpcl]

theorem trunkOk_cases {s : State} (hs : TrunkOk s) : Serving 0 s ∨ (s.trunk.state ≠ .up ∧ Quiet s) := by
  by_cases hup : s.trunk.state = .up
  · exact .inl (serving_of_up hs hup)
  · obtain ⟨-, -, -, hquiet⟩ := hs
    exact .inr ⟨hup, hquiet hup⟩

/-- What the account of a trunk in service reads. -/
def creditBlocks : List Block := [.intake, .acc, .replyQ, .ctlQ, .trunk, .pcl]

/-- What the quiet of a trunk out of service reads besides. -/
def trunkBlocks : List Block := creditBlocks ++ [.deliveries, .entries, .branches]

/-! ## What an event keeps -/

/-- An event that takes no credit, leaves no more operations and no more completions unsent, and returns its credits in hand. -/
theorem Serving.of_counts {m n : Nat} {s t : State} (hs : Serving n s) (hup : t.trunk.state = s.trunk.state)
    (hheld : t.creditsHeld + m ≤ s.creditsHeld + n) (hpending : t.pcl.length ≤ Config.pclCapacity)
    (hanswers : completions t + t.pcl.length + s.acc ≤ completions s + s.pcl.length + t.acc) : Serving m t where
  up := hup.trans hs.up
  held := hheld.trans hs.held
  pending := hpending
  answers := by have := hs.answers; omega

/-- A credit in hand may stay unaccounted for. -/
theorem Serving.weaken {n : Nat} {s : State} (hs : Serving (n + 1) s) : Serving n s :=
  hs.of_counts rfl (by omega) hs.pending le_rfl

theorem serving_readsOnly (n : Nat) : ReadsOnly creditBlocks (Serving n) := by
  intro s t h hs
  have hintake : t.intake = s.intake := h .intake (by decide)
  have hacc : t.acc = s.acc := h .acc (by decide)
  have hreplies : t.replyQ = s.replyQ := h .replyQ (by decide)
  have hctl : t.ctlQ = s.ctlQ := h .ctlQ (by decide)
  have htrunk : t.trunk = s.trunk := h .trunk (by decide)
  have hpcl : t.pcl = s.pcl := h .pcl (by decide)
  have hheld : t.creditsHeld = s.creditsHeld := by simp only [State.creditsHeld, hintake, hacc, hreplies, hctl]
  have hwaiting : completions t = completions s := by simp only [completions, hctl]
  exact hs.of_counts (by rw [htrunk]) (by rw [hheld]) (by rw [hpcl]; exact hs.pending) (by rw [hwaiting, hpcl, hacc])

/-- What leaves the queues, the list and the trunk leaves the credits. -/
theorem Serving.of_frame {n : Nat} {ks : List Block} {s t : State} (hs : Serving n s) (h : SameBut ks s t)
    (hk : ∀ k ∈ creditBlocks, k ∉ ks) : Serving n t :=
  (serving_readsOnly n).keep h hk hs

theorem quiet_readsOnly : ReadsOnly trunkBlocks Quiet := by
  intro s t h hs
  have hintake : t.intake = s.intake := h .intake (by decide)
  have hacc : t.acc = s.acc := h .acc (by decide)
  have hreplies : t.replyQ = s.replyQ := h .replyQ (by decide)
  have hctl : t.ctlQ = s.ctlQ := h .ctlQ (by decide)
  have htrunk : t.trunk = s.trunk := h .trunk (by decide)
  have hpcl : t.pcl = s.pcl := h .pcl (by decide)
  have hdeliveries : t.deliveries = s.deliveries := h .deliveries (by decide)
  have hentries : t.entries = s.entries := h .entries (by decide)
  have hbranches : t.branches = s.branches := h .branches (by decide)
  unfold Quiet at hs ⊢
  rwa [hintake, hacc, hreplies, hctl, htrunk, hpcl, hdeliveries, hentries, hbranches]

/-- An event that leads from `s` to `t` keeps the account of a trunk in service, whatever credits are in hand, and the quiet of a
trunk out of service. -/
structure KeepsTrunk (s t : State) : Prop where
  serving : ∀ {n : Nat}, Serving n s → Serving n t
  quiet : Quiet s → Quiet t

theorem KeepsTrunk.refl (s : State) : KeepsTrunk s s := ⟨id, id⟩

theorem KeepsTrunk.trans {s t u : State} (hst : KeepsTrunk s t) (htu : KeepsTrunk t u) : KeepsTrunk s u :=
  ⟨fun hs => htu.serving (hst.serving hs), fun hs => htu.quiet (hst.quiet hs)⟩

theorem KeepsTrunk.trunkOk {s t : State} (h : KeepsTrunk s t) (hs : TrunkOk s) : TrunkOk t := by
  rcases trunkOk_cases hs with hup | ⟨-, hquiet⟩
  · exact (h.serving hup).trunkOk
  · exact trunkOk_of_quiet (h.quiet hquiet)

theorem keepsTrunk_of_frame {ks : List Block} {s t : State} (h : SameBut ks s t)
    (hk : ∀ k ∈ trunkBlocks, k ∉ ks) :
    KeepsTrunk s t where
  serving hs := hs.of_frame h fun k hm => hk k (List.mem_append_left _ hm)
  quiet hs := quiet_readsOnly.keep h hk hs

theorem trunkOk_readsOnly : ReadsOnly trunkBlocks TrunkOk := by
  intro s t h hs
  rcases trunkOk_cases hs with hup | ⟨-, hquiet⟩
  · exact (serving_readsOnly 0 s t (fun k hm => h k (List.mem_append_left _ hm)) hup).trunkOk
  · exact trunkOk_of_quiet (quiet_readsOnly s t h hquiet)

/-- Replies that are no refusals hold no credit (R138). -/
theorem countP_refusals_append {q new : List Reply} (h : ∀ r ∈ new, r.isRefusal = false) :
    (q ++ new).countP Reply.isRefusal = q.countP Reply.isRefusal := by
  have hnone : new.countP Reply.isRefusal = 0 := List.countP_eq_zero.mpr fun r hr => by simp [h r hr]
  rw [List.countP_append, hnone, Nat.add_zero]

/-- Replies that hold no credit may be placed; a quiet part places none, and its entries and queues are left empty (R138, R146). -/
theorem keepsTrunk_of_answers {ks : List Block} {s t : State} {new : List Reply} (h : SameBut ks s t)
    (hk : ∀ k ∈ [Block.intake, .acc, .ctlQ, .trunk, .pcl, .deliveries], k ∉ ks) (hreplies : t.replyQ = s.replyQ ++ new)
    (hnew : ∀ r ∈ new, r.isRefusal = false) (hnone : Quiet s → new = [])
    (hentries : ∀ e : EntryId, s.entries[e].tagHeld = none → t.entries[e].tagHeld = none)
    (hqueues : ∀ b : BranchId, s.branches[b].queue = [] → t.branches[b].queue = []) : KeepsTrunk s t := by
  have hintake : t.intake = s.intake := h.1 .intake (hk _ (by simp))
  have hacc : t.acc = s.acc := h.1 .acc (hk _ (by simp))
  have hctl : t.ctlQ = s.ctlQ := h.1 .ctlQ (hk _ (by simp))
  have htrunk : t.trunk = s.trunk := h.1 .trunk (hk _ (by simp))
  have hpcl : t.pcl = s.pcl := h.1 .pcl (hk _ (by simp))
  have hdeliveries : t.deliveries = s.deliveries := h.1 .deliveries (hk _ (by simp))
  have hrefusals : t.replyQ.countP Reply.isRefusal = s.replyQ.countP Reply.isRefusal := by
    rw [hreplies, countP_refusals_append hnew]
  constructor
  · intro n hs
    have hheld : t.creditsHeld = s.creditsHeld := by simp only [State.creditsHeld, hintake, hacc, hrefusals, hctl]
    have hwaiting : completions t = completions s := by simp only [completions, hctl]
    exact hs.of_counts (by rw [htrunk]) (by rw [hheld]) (by rw [hpcl]; exact hs.pending) (by rw [hwaiting, hpcl, hacc])
  · intro hs
    rw [hnone hs, List.append_nil] at hreplies
    obtain ⟨hi, ha, hr, hc, hp, hd, htx, he, hb⟩ := hs
    exact ⟨hintake.trans hi, hacc.trans ha, hreplies.trans hr, hctl.trans hc, hpcl.trans hp, hdeliveries.trans hd,
      by rw [htrunk]; exact htx, fun e => hentries e (he e), fun b => hqueues b (hb b)⟩

/-- Entries and ports may change as long as none takes up what it did not hold. -/
theorem keepsTrunk_of_records {ks : List Block} {s t : State} (h : SameBut ks s t)
    (hk : ∀ k ∈ [Block.replyQ, .intake, .acc, .ctlQ, .trunk, .pcl, .deliveries], k ∉ ks)
    (hentries : ∀ e : EntryId, s.entries[e].tagHeld = none → t.entries[e].tagHeld = none)
    (hqueues : ∀ b : BranchId, s.branches[b].queue = [] → t.branches[b].queue = []) : KeepsTrunk s t := by
  have hreplies : t.replyQ = s.replyQ := h.1 .replyQ (hk _ (by simp))
  exact keepsTrunk_of_answers (new := []) h (fun k hm => hk k (List.mem_cons_of_mem _ hm)) (by rw [hreplies, List.append_nil])
    (fun r hr => nomatch hr) (fun _ => rfl) hentries hqueues

/-! ## The shared operations -/

theorem setBranch_keepsTrunk {s : State} {b : BranchId} {br : Branch} (h : s.branches[b].queue = [] → br.queue = []) :
    KeepsTrunk s (s.setBranch b br) := by
  refine keepsTrunk_of_records (setBranch_frame s b br) (by decide) (fun _ => id) fun c hc => ?_
  by_cases hcb : c = b
  · subst hcb
    rw [setBranch_self, restall_queue]
    exact h hc
  · rw [setBranch_other s b br c hcb]
    exact hc

/-- A port that is written with its queue as it was. -/
theorem setBranch_sameQueue_keepsTrunk {s : State} {b : BranchId} {br : Branch} (h : br.queue = s.branches[b].queue) :
    KeepsTrunk s (s.setBranch b br) :=
  setBranch_keepsTrunk h.trans

theorem setEntry_keepsTrunk {s : State} {e : EntryId} {x : Entry} (h : s.entries[e].tagHeld = none → x.tagHeld = none) :
    KeepsTrunk s (s.setEntry e x) :=
  keepsTrunk_of_records (ks := [.entries]) (by simp [sameBut_iff]) (by decide)
    (forall_setEntry (fun x y => x.tagHeld = none → y.tagHeld = none) (fun _ => id) h) fun _ => id

theorem recordFault_keepsTrunk {s u : State} (f : FaultRecord) (h : KeepsTrunk s u) : KeepsTrunk s (u.recordFault f) :=
  h.trans (keepsTrunk_of_frame (recordFault_frame f u) (by decide))

theorem raiseInternal_keepsTrunk {s u : State} (k : Fin 8) (h : KeepsTrunk s u) : KeepsTrunk s (u.raiseInternal k) :=
  h.trans (keepsTrunk_of_frame (raise_frame (internalLine k) u) (by decide))

/-- A completion returns no credit and takes none: its record waits in place of its operation (R148, R149, R183). -/
theorem complete_keepsTrunk {s u : State} (f : LongOp → Option ControlStatus) (h : KeepsTrunk s u) :
    KeepsTrunk s (u.complete f) := by
  refine h.trans ⟨fun hu => ?_, fun hu => ?_⟩
  · have hbalance := complete_balance u f
    refine hu.of_counts rfl ?_ ((List.length_filter_le _ _).trans hu.pending) (by rw [hbalance, State.complete_acc])
    simp only [State.creditsHeld, complete_immediates, State.complete_intake, State.complete_replyQ, State.complete_acc, le_refl]
  · obtain ⟨-, -, -, -, hpcl, -⟩ := id hu
    rwa [complete_of_empty u f hpcl]

theorem finish_keepsTrunk {s u : State} (d : WindowId → Bool) (f : BranchId → Option ControlStatus) (h : KeepsTrunk s u) :
    KeepsTrunk s (u.finish d f) :=
  complete_keepsTrunk _ (h.trans (keepsTrunk_of_frame (ks := [.windows]) (by simp [sameBut_iff]) (by decide)))

theorem endDrain_queue (br : Branch) : br.endDrain.queue = br.queue := by
  unfold Branch.endDrain Branch.enterFence
  split <;> rfl

theorem settle_keepsTrunk {s u : State} (ws : WindowId → Bool) (bs : BranchId → Bool) (h : KeepsTrunk s u) :
    KeepsTrunk s (u.settle ws bs) := by
  refine finish_keepsTrunk _ _ (h.trans ?_)
  refine keepsTrunk_of_records (ks := [.branches]) (by simp [sameBut_iff]) (by decide) (fun _ => id) fun b hb => ?_
  simp only [Fin.getElem_fin, Vector.getElem_ofFn]
  split
  · rw [restall_queue, endDrain_queue]
    exact hb
  · exact hb

theorem uncountOne_frame (s : State) (w : WindowId) : SameBut [.windows] s (s.uncountOne w) := by
  simp [sameBut_iff]

/-- Only an entry that holds a tag is answered (R21, R28, R34). -/
theorem answerEntry_keepsTrunk {s : State} {e : EntryId} {h : Held} {d : Time} (o : Bool) (st : ReplyStatus) (ws : List Word)
    (he : s.entries[e] = .issued h d) : KeepsTrunk s (s.answerEntry e h o st ws) := by
  have htag : s.entries[e].tagHeld ≠ none := by simp [he, Entry.tagHeld]
  refine settle_keepsTrunk _ _ ?_
  refine keepsTrunk_of_answers (ks := [.entries, .replyQ, .windows]) (new := [⟨h.tag, st, ws, .entry e⟩])
    (by simp [sameBut_iff]) (by decide) (by simp) (by simp [Reply.isRefusal]) (fun hs => ?_) (fun f => ?_) fun _ => ?_
  · obtain ⟨-, -, -, -, -, -, -, hentries, -⟩ := hs
    exact absurd (hentries e) htag
  · rw [State.uncountOne_entries, State.placeReply_entries]
    exact forall_setEntry (fun x y => x.tagHeld = none → y.tagHeld = none) (fun _ => id) (fun hn => absurd hn htag) f
  · rw [State.uncountOne_branches, State.placeReply_branches, State.setEntry_branches]
    exact id

/-! ## Losses and CLEAR-PATH -/

theorem owed_not_refusal {s : State} {p : BranchId → Bool} {st : ReplyStatus} {r : Reply} (h : r ∈ s.owed p st) :
    r.isRefusal = false := by
  obtain ⟨e, -, he⟩ := List.mem_filterMap.mp h
  split at he
  · split at he
    · cases he
      simp [Reply.isRefusal]
    · cases he
  · cases he

theorem counted_eq_none {x : Entry} (h : x.tagHeld = none) : x.counted = none := by
  cases x with
  | free | answered k o | linger k d => rfl
  | queued k data | issued k d => exact nomatch h

/-- Nothing is owed to entries that hold no tag. -/
theorem owed_of_quiet {s : State} (p : BranchId → Bool) (st : ReplyStatus) (hs : Quiet s) : s.owed p st = [] := by
  obtain ⟨-, -, -, -, -, -, -, hentries, -⟩ := hs
  refine List.filterMap_eq_nil_iff.mpr fun e _ => ?_
  rw [counted_eq_none (hentries e)]

/-- An entry that is answered, as by a loss, takes no tag. -/
theorem Entry.Answers.tagHeld_none {ts : List (BitVec 6)} {x y : Entry} (h : Entry.Answers ts x y) (hx : x.tagHeld = none) :
    y.tagHeld = none :=
  Option.eq_none_iff_forall_ne_some.mpr fun k hk => nomatch hx.symm.trans (h.1 k hk)

theorem lose_keepsTrunk (s : State) (b : BranchId) (st : BranchState) : KeepsTrunk s (s.lose b st) := by
  refine finish_keepsTrunk _ _ ?_
  refine keepsTrunk_of_answers (ks := [.entries, .replyQ, .windows, .branches, .lines])
    (new := s.owed (fun c => decide (c = b)) .branchDown)
    (by simp [sameBut_iff]) (by decide) (by simp) (fun r => owed_not_refusal) (owed_of_quiet _ _) (fun e => ?_) fun c => ?_
  · simpa using (lose_answers b s.entries[e]).tagHeld_none
  · by_cases hc : c = b
    · subst hc
      simp [Branch.lose]
    · have hne : (b : Nat) ≠ c := fun h => hc (Fin.ext h.symm)
      simp [Vector.getElem_set_ne, hne]

theorem lossBy_keepsTrunk {s u : State} (b : BranchId) (cause : LossCause) (h : KeepsTrunk s u) :
    KeepsTrunk s (u.lossBy b cause) :=
  recordFault_keepsTrunk _ (raiseInternal_keepsTrunk 1 (h.trans (lose_keepsTrunk u b _)))

theorem branchCheckFails_keepsTrunk (b : BranchId) (s : State) : KeepsTrunk s (s.branchCheckFails b) := by
  unfold State.branchCheckFails
  split
  · exact lossBy_keepsTrunk b .check (setBranch_sameQueue_keepsTrunk rfl)
  · exact .refl s

theorem clearPath_keepsTrunk (s : State) : KeepsTrunk s s.clearPath := by
  refine settle_keepsTrunk _ _ ?_
  refine keepsTrunk_of_answers (ks := [.entries, .replyQ, .windows, .branches]) (new := s.owed (fun _ => true) .aborted)
    (by simp [sameBut_iff]) (by decide) (by simp) (fun r => owed_not_refusal) (owed_of_quiet _ _) (fun e => ?_) fun c => ?_
  · simpa using (clear_answers s.entries[e]).tagHeld_none
  · simp

end Sys2Proof.Machine
end

section
/-! Every command keeps the account of a trunk in service and the quiet of a trunk out of service (R131, R142, R149, R182). -/

namespace Sys2Proof.Machine

open Sys2Proof.Safety

/-! ## Frames received on a branch -/

theorem matchedReply_keepsTrunk {s : State} {e : EntryId} {h : Held} {d : Time} (b : BranchId) (st : ReplyStatus)
    (data : List Word) (he : s.entries[e] = .issued h d) : KeepsTrunk s (s.matchedReply b e h st data) := by
  unfold State.matchedReply
  split
  · split
    · exact answerEntry_keepsTrunk false .ok data he
    · exact recordFault_keepsTrunk _ (answerEntry_keepsTrunk false .targetError [] he)
  · exact answerEntry_keepsTrunk false st [] he

/-- A late reply finds an entry that holds its tag, or frees one that holds none (R32, R33). -/
theorem lateReply_keepsTrunk {s : State} {e : EntryId} {x : Entry} (h : s.entries[e].tagHeld = none → x.tagHeld = none) :
    KeepsTrunk s (s.setEntry e x).countLate :=
  (setEntry_keepsTrunk h).trans (keepsTrunk_of_frame (ks := attentionBlocks) (by simp [sameBut_iff, attentionBlocks]) (by decide))

theorem replyTo_keepsTrunk (b : BranchId) (e : EntryId) (st : ReplyStatus) (data : List Word) (s : State) :
    KeepsTrunk s (s.replyTo b e st data) := by
  have hstray : KeepsTrunk s (s.strayReply b (BitVec.ofNat 6 e.val)) := recordFault_keepsTrunk _ (.refl s)
  unfold State.replyTo
  dsimp only
  split
  case h_1 he =>
    split
    · exact matchedReply_keepsTrunk b st data he
    · exact hstray
  case h_2 he =>
    split
    · exact lateReply_keepsTrunk fun hn => by rw [he] at hn; exact nomatch hn
    · exact hstray
  case h_3 =>
    split
    · exact lateReply_keepsTrunk fun _ => rfl
    · exact hstray
  all_goals exact hstray

theorem takeReply_keepsTrunk (b : BranchId) (t : BitVec 6) (st : ReplyStatus) (data : List Word) (s : State) :
    KeepsTrunk s (s.takeReply b t st data) := by
  unfold State.takeReply
  split
  · split
    · exact replyTo_keepsTrunk b _ st data s
    · exact recordFault_keepsTrunk _ (.refl s)
  · exact .refl s

theorem takeCredit_keepsTrunk (b : BranchId) (n : Nat) (s : State) : KeepsTrunk s (s.takeCredit b n) := by
  unfold State.takeCredit
  dsimp only
  split
  · split
    · exact setBranch_sameQueue_keepsTrunk rfl
    · exact recordFault_keepsTrunk _ (setBranch_sameQueue_keepsTrunk rfl)
  · exact .refl s

theorem takeWithdraw_keepsTrunk (b : BranchId) (s : State) : KeepsTrunk s (s.takeWithdraw b) := by
  unfold State.takeWithdraw
  split
  case h_1 | h_2 | h_3 => exact raiseInternal_keepsTrunk 3 (setBranch_sameQueue_keepsTrunk rfl)
  case h_4 => exact recordFault_keepsTrunk _ (.refl s)
  all_goals exact .refl s

theorem takeReturn_keepsTrunk (b : BranchId) (s : State) : KeepsTrunk s (s.takeReturn b) := by
  unfold State.takeReturn
  split
  case h_1 => exact raiseInternal_keepsTrunk 4 (setBranch_sameQueue_keepsTrunk rfl)
  case h_2 | h_3 | h_4 => exact recordFault_keepsTrunk _ (.refl s)
  all_goals exact .refl s

/-! ## The branch links, issue and deadlines -/

theorem branchTrained_keepsTrunk (b : BranchId) (n : Nat) (s : State) : KeepsTrunk s (s.branchTrained b n) := by
  have hport : KeepsTrunk s (s.setBranch b (s.branches[b].enterService n)) := setBranch_sameQueue_keepsTrunk rfl
  unfold State.branchTrained
  dsimp only
  split
  case h_1 => exact raiseInternal_keepsTrunk 2 hport
  case h_2 => exact raiseInternal_keepsTrunk 2 (complete_keepsTrunk _ hport)
  all_goals exact .refl s

/-- The item issued leaves the queue (R61). -/
theorem issue_keepsTrunk (f : BranchFrame) (b : BranchId) (s : State) :
    KeepsTrunk s (s.setBranch b (s.branches[b].issue f)) :=
  setBranch_keepsTrunk fun h => congrArg List.tail h

theorem issueNonPosted_keepsTrunk (b : BranchId) (s : State) : Leaves (KeepsTrunk s) (execIssueNonPosted b s) := by
  unfold execIssueNonPosted
  split
  case h_2 => exact leaves_fault
  case h_1 e _ =>
    split
    case h_1 h data he =>
      have hentry (x : Entry) : KeepsTrunk s (s.setEntry e x) :=
        setEntry_keepsTrunk fun hn => by rw [he] at hn; exact nomatch hn
      exact leaves_next ((hentry _).trans (issue_keepsTrunk (h.request e data) b (s.setEntry e _)))
    all_goals exact leaves_fault

theorem issuePosted_keepsTrunk (b : BranchId) (s : State) : Leaves (KeepsTrunk s) (execIssuePosted b s) := by
  have huncounted (u : State) (w : WindowId) : KeepsTrunk u (u.uncountOne w) :=
    keepsTrunk_of_frame (uncountOne_frame u w) (by decide)
  unfold execIssuePosted
  split
  · exact leaves_next (settle_keepsTrunk _ _ ((issue_keepsTrunk _ b s).trans (huncounted _ _)))
  · exact leaves_fault

theorem requestDeadlineExpiry_keepsTrunk (e : EntryId) (s : State) : Leaves (KeepsTrunk s) (execRequestDeadlineExpiry e s) := by
  unfold execRequestDeadlineExpiry
  split
  case h_1 he => exact leaves_guard fun _ => answerEntry_keepsTrunk true .timeout [] he
  all_goals exact leaves_fault

theorem lingerExpiry_keepsTrunk (e : EntryId) (s : State) : Leaves (KeepsTrunk s) (execLingerExpiry e s) := by
  unfold execLingerExpiry
  split
  case h_1 => exact leaves_guard fun _ => setEntry_keepsTrunk fun _ => rfl
  all_goals exact leaves_fault

end Sys2Proof.Machine
end

section
/-! The trunk link, the intake, the Control Unit and the sends: how each deals with the credit in hand (R131, R138 to R142, R151 to
R153, R163, R164, R177). -/

namespace Sys2Proof.Machine

open Sys2Proof.Safety

/-! ## The trunk link -/

/-- The trunk's record may change if it stays UP when it was, and takes no frame to send. -/
theorem trunk_keepsTrunk {s : State} {k : Trunk} (hup : s.trunk.state = .up → k.state = .up)
    (htx : s.trunk.tx = none → k.tx = none) : KeepsTrunk s { s with trunk := k } where
  serving hs := ⟨hup hs.up, hs.held, hs.pending, hs.answers⟩
  quiet hs := by
    obtain ⟨hintake, hacc, hreplies, hctl, hpcl, hdeliveries, hidle, hentries, hqueues⟩ := hs
    exact ⟨hintake, hacc, hreplies, hctl, hpcl, hdeliveries, htx hidle, hentries, hqueues⟩

theorem trunk_trunkOk {s : State} {k : Trunk} (hs : TrunkOk s) (hup : s.trunk.state = .up → k.state = .up)
    (htx : s.trunk.tx = none → k.tx = none) : TrunkOk { s with trunk := k } :=
  (trunk_keepsTrunk hup htx).trunkOk hs

theorem branch_leaveReset_queue (br : Branch) : br.leaveReset.queue = br.queue := by
  unfold Branch.leaveReset
  split <;> rfl

theorem leaveReset_keepsTrunk (s : State) : Leaves (KeepsTrunk s) (execLeavePowerOnReset s) := by
  refine leaves_next ?_
  split
  · have htrunk : KeepsTrunk s { s with trunk := s.trunk.leaveReset } := by
      unfold Trunk.leaveReset
      refine trunk_keepsTrunk (fun hup => ?_) fun htx => ?_
      · simp [hup]
      · split
        · exact htx
        · exact htx
    refine htrunk.trans (keepsTrunk_of_records (ks := [.porst, .branches]) (by simp [sameBut_iff]) (by decide) (fun _ => id) ?_)
    intro b hb
    simpa [branch_leaveReset_queue] using hb
  · exact .refl s

/-- A part after power-on reset holds nothing. -/
theorem powerOn_quiet (p : Bool) (ps : Vector Bool 6) (q : List Instr) : Quiet (State.powerOn p ps q) := by
  refine ⟨rfl, rfl, rfl, rfl, rfl, rfl, rfl, fun e => ?_, fun b => ?_⟩
  · rw [powerOn_entries]
    rfl
  · rw [powerOn_branches]
    rfl

theorem entry_trunkReset_tagHeld (now : Time) (k : Timing) (x : Entry) : (x.trunkReset now k).tagHeld = none := by
  unfold Entry.trunkReset
  split <;> rfl

/-- A trunk reset leaves the part holding nothing (R164). -/
theorem trunkReset_quiet (sends : Bool) (s : State) : Quiet (s.trunkReset sends) := by
  refine ⟨?intake, ?acc, ?replies, ?answers, ?operations, ?deliveries, ?transmitter, fun e => ?entries, fun b => ?queues⟩
  case entries => rw [trunkReset_entries, entry_trunkReset_tagHeld]
  case queues => rw [trunkReset_branches, restall_queue, branch_trunkReset_queue]
  all_goals simp [State.trunkReset]

theorem trunkCheckFails_trunkOk {s : State} (hs : TrunkOk s) : TrunkOk s.trunkCheckFails := by
  unfold State.trunkCheckFails
  split
  · exact trunkOk_of_quiet (trunkReset_quiet true s)
  · exact hs

theorem trunkPartnerLost_trunkOk {s : State} (hs : TrunkOk s) : Leaves TrunkOk (execTrunkPartnerLost s) := by
  refine leaves_next ?_
  split
  case h_1 => exact trunkOk_of_quiet (trunkReset_quiet false _)
  case h_2 hst | h_3 hst => exact trunk_trunkOk hs (fun hup => nomatch hst.symm.trans hup) id

/-- The trunk comes UP with its sixteen credits to be returned, from holding nothing (R163). -/
theorem trunkUp_serving {s : State} (hs : Quiet s) : Serving 0 s.trunkUp := by
  obtain ⟨hintake, -, hreplies, hctl, hpcl, -⟩ := hs
  have hup (k : Trunk) (hk : k.state = .up) : Serving 0 { s with trunk := k, acc := Config.intakeCapacity } := by
    refine ⟨hk, ?_, ?_, ?_⟩ <;> simp [State.creditsHeld, completions, hintake, hreplies, hctl, hpcl]
  unfold State.trunkUp
  dsimp only
  split
  · exact (raiseInternal_keepsTrunk 7 (.refl _)).serving (hup _ rfl)
  · exact hup _ rfl

theorem trunkTrainingComplete_trunkOk {s : State} (hs : TrunkOk s) : Leaves TrunkOk (execTrunkTrainingComplete s) := by
  refine leaves_next ?_
  split
  case isTrue htraining =>
    obtain ⟨-, -, -, hquiet⟩ := hs
    exact (trunkUp_serving (hquiet (by rw [htraining]; decide))).trunkOk
  case isFalse => exact hs

/-! ## Frames received on the trunk -/

/-- A frame is appended only below 16 credits held (R131). -/
theorem arrive_trunkOk {s : State} (x : IntakeFrame) (hs : TrunkOk s) : TrunkOk (s.arrive x) := by
  unfold State.arrive
  split
  case isTrue => exact hs
  case isFalse hup =>
    have hserving := serving_of_up hs (not_not.mp hup)
    split
    case isTrue hroom =>
      refine Serving.trunkOk ⟨hserving.up, ?_, hserving.pending, hserving.answers⟩
      simp only [State.creditsHeld, List.length_append, List.length_singleton] at hroom ⊢
      omega
    case isFalse => exact (recordFault_keepsTrunk _ (.refl s)).trunkOk hs

theorem takeAck_trunkOk {s : State} (v : BitVec 8) (hs : TrunkOk s) : TrunkOk (s.takeAck v) := by
  by_cases hup : s.trunk.state = .up
  · exact ((serving_of_up hs hup).of_frame (takeAck_frame v s) (by decide)).trunkOk
  · rw [State.takeAck, if_pos hup]
    exact hs

theorem trunkUnexpected_keepsTrunk (k : BitVec 4) (s : State) : KeepsTrunk s (s.trunkUnexpected k) :=
  keepsTrunk_of_frame (trunkUnexpected_frame k s) (by decide)

/-! ## The credit in hand -/

/-- A frame that leaves the intake, which is empty out of service, leaves its credit in hand (R131, R132). -/
theorem taken_serving {s : State} {x : IntakeFrame} {rest : List IntakeFrame} (hs : TrunkOk s) (h : s.intake = x :: rest) :
    Serving 1 { s with intake := rest } := by
  rcases trunkOk_cases hs with hserving | ⟨-, hempty, -⟩
  · refine hserving.of_counts rfl ?_ hserving.pending le_rfl
    simp only [State.creditsHeld, h, List.length_cons]
    omega
  · exact nomatch h.symm.trans hempty

section
variable {n : Nat} {s : State} (hs : Serving (n + 1) s)
include hs

theorem returnCredit_serving : Serving n s.returnCredit := by
  refine hs.of_counts rfl ?_ hs.pending (Nat.add_le_add_left (Nat.le_succ _) _)
  simp only [State.creditsHeld, State.returnCredit]
  omega

/-- The Reply of a refusal holds the credit (R138). -/
theorem placeRefusal_serving (t : BitVec 6) (st : ReplyStatus) : Serving n (s.placeReply ⟨t, st, [], .refusal⟩) := by
  refine hs.of_counts rfl ?_ hs.pending le_rfl
  simp only [State.creditsHeld, State.placeReply, List.countP_append, List.countP_singleton, Reply.isRefusal, decide_true, if_true]
  omega

/-- The answer to a CONTROL frame holds the credit, and is no completion (R148). -/
theorem answerNow_serving (c : Control) (st : ControlStatus) (ws : List Word) : Serving n (s.answerNow c st ws) := by
  refine hs.of_counts rfl ?_ hs.pending ?_
  · simp only [State.creditsHeld, State.answerNow, List.countP_append, List.countP_singleton, ControlReply.isImmediate,
      decide_true, if_true]
    omega
  · simp [completions, ControlReply.isImmediate]

/-- An operation that is accepted returns the credit (R141, R181, R182). -/
theorem accept_serving (c : Control) (op : LongOp) (hroom : s.pcl.length < Config.pclCapacity) : Serving n (s.accept c op) := by
  refine hs.of_counts rfl ?_ (by simpa using hroom) ?_
  · simp only [State.creditsHeld, State.accept]
    omega
  · simp only [completions, State.accept, List.length_append, List.length_singleton]
    omega

end

/-! ## Routing -/

theorem refuse_serving {s : State} (r : Request) (st : ReplyStatus) (b : Option BranchId) (hs : Serving 1 s) :
    Serving 0 (s.refuse r st b) := by
  unfold State.refuse
  split
  · exact (recordFault_keepsTrunk _ (.refl _)).serving (returnCredit_serving hs)
  · exact placeRefusal_serving hs r.tag st

theorem routeVia_serving {s : State} (r : Request) (w : WindowId) (hs : Serving 1 s) : Serving 0 (s.routeVia r w) := by
  unfold State.routeVia
  dsimp only
  split
  case h_1 =>
    exact returnCredit_serving
      (hs.of_frame (ks := [.entries, .branches, .windows]) (by simp [sameBut_iff, State.countIn]) (by decide))
  case h_2 => exact hs.weaken
  case h_3 =>
    exact returnCredit_serving (hs.of_frame (ks := [.branches, .windows]) (by simp [sameBut_iff, State.countIn]) (by decide))

theorem routeExamination_trunkOk {s : State} (hs : TrunkOk s) : Leaves TrunkOk (execRouteExamination s) := by
  unfold execRouteExamination
  split
  case h_2 => exact leaves_fault
  case h_1 r rest h =>
    have htaken := taken_serving hs h
    refine leaves_next ?_
    split
    · exact (refuse_serving r _ _ htaken).trunkOk
    · exact ((recordFault_keepsTrunk _ (.refl _)).serving (returnCredit_serving htaken)).trunkOk
    · exact hs
    · exact (routeVia_serving r _ htaken).trunkOk

/-! ## Control commands -/

/-- A control command is taken from the intake of a trunk in service, and deals with the credit of its frame. -/
theorem takeControl_trunkOk {isRow : Nat → Bool} {run : Control → State → State} {s : State} (hs : TrunkOk s)
    (hrun : ∀ (c : Control) (u : State), Serving 1 u → Serving 0 (run c u)) : Leaves TrunkOk (takeControl isRow run s) := by
  unfold takeControl
  split
  case h_1 c rest h =>
    split
    · exact leaves_next (hrun c _ (taken_serving hs h)).trunkOk
    · exact leaves_fault
  case h_2 => exact leaves_fault

theorem command_trunkOk {α : Type} {isRow : Nat → Bool} {operands : Control → Option α} {run : Control → α → State → State}
    {s : State} (hs : TrunkOk s) (hrun : ∀ (c : Control) (a : α) (u : State), Serving 1 u → Serving 0 (run c a u)) :
    Leaves TrunkOk (takeControl isRow (fun c => withOperands (operands c) c (run c)) s) := by
  refine takeControl_trunkOk hs fun c u hu => ?_
  unfold withOperands
  split
  · exact hrun c _ u hu
  · exact answerNow_serving hu c .badOperand []

/-- A command that writes no queue and no list, and is answered at once. -/
theorem written_answered_serving {ks : List Block} {s u : State} (c : Control) (st : ControlStatus) (ws : List Word)
    (hs : Serving 1 s) (h : SameBut ks s u) (hk : ∀ k ∈ creditBlocks, k ∉ ks) : Serving 0 (u.answerNow c st ws) :=
  answerNow_serving (hs.of_frame h hk) c st ws

theorem loadWindow_serving {s : State} (c : Control) (o : LoadWindowOperands) (hs : Serving 1 s) :
    Serving 0 (s.loadWindow c o) := by
  unfold State.loadWindow
  split
  · exact answerNow_serving hs c _ _
  · split
    · exact answerNow_serving hs c _ _
    · exact written_answered_serving (ks := [.windows]) c _ _ hs (by simp [sameBut_iff]) (by decide)

theorem retireWindow_serving {s : State} (c : Control) (w : WindowId) (hs : Serving 1 s) : Serving 0 (s.retireWindow c w) := by
  have hwindow (x : Window) : SameBut [.windows] s (s.setWindow w x) := by simp [sameBut_iff]
  unfold State.retireWindow
  split
  case h_1 | h_2 => exact answerNow_serving hs c _ _
  case h_3 =>
    split
    · exact written_answered_serving c _ _ hs (hwindow _) (by decide)
    · split
      case isTrue => exact answerNow_serving hs c _ _
      case isFalse hroom => exact accept_serving (hs.of_frame (hwindow _) (by decide)) c _ (not_le.mp hroom)

theorem fenceBranch_serving {s : State} (c : Control) (b : BranchId) (lend : Bool) (hs : Serving 1 s) :
    Serving 0 (s.fenceBranch c b lend) := by
  unfold State.fenceBranch
  dsimp only
  split
  case h_5 =>
    split
    · exact written_answered_serving c _ _ hs (setBranch_frame s b _) (by decide)
    · split
      case isTrue => exact answerNow_serving hs c _ _
      case isFalse hroom =>
        exact accept_serving (hs.of_frame (setBranch_frame s b _) (by decide)) c _ (not_le.mp hroom)
  case h_6 => exact written_answered_serving c _ _ hs (setBranch_frame s b _) (by decide)
  all_goals exact answerNow_serving hs c _ _

theorem unfenceBranch_serving {s : State} (c : Control) (b : BranchId) (hs : Serving 1 s) :
    Serving 0 (s.unfenceBranch c b) := by
  unfold State.unfenceBranch
  dsimp only
  split
  case h_5 =>
    exact answerNow_serving ((complete_keepsTrunk _ (.refl _)).serving (hs.of_frame (setBranch_frame s b _) (by decide))) c _ _
  case h_6 | h_7 => exact written_answered_serving c _ _ hs (setBranch_frame s b _) (by decide)
  all_goals exact answerNow_serving hs c _ _

/-! ## RESET-BRANCH -/

/-- In either order of a reset's answers, the completions placed are those of the operations that leave the list (R97, R183). -/
theorem resetWork_counts {s : State} {b : BranchId} (seq : BitVec 8) (h : s.branches[b].state.inService = true) :
    completions (s.resetWork seq b) + (s.resetWork seq b).pcl.length = completions s + s.pcl.length ∧
    (s.resetWork seq b).ctlQ.countP ControlReply.isImmediate = s.ctlQ.countP ControlReply.isImmediate := by
  obtain ⟨hpcl, hctl⟩ := resetWork_completes (seq := seq) h
  have hcompletions {u : State} (hu : (s.resetWork seq b).ctlQ = u.ctlQ) : completions (s.resetWork seq b) = completions u :=
    by simp only [completions, hu]
  rcases hctl with hctl | hctl
  · rw [hcompletions hctl, hpcl, hctl, complete_balance, complete_balance, complete_immediates, complete_immediates]
    exact ⟨rfl, rfl⟩
  · rw [hcompletions hctl, hpcl, hctl, ← complete_or_pcl, complete_balance, complete_immediates]
    exact ⟨rfl, rfl⟩

theorem resetWork_pcl_length_le (s : State) (seq : BitVec 8) (b : BranchId) :
    (s.resetWork seq b).pcl.length ≤ (s.complete (abortFence b)).pcl.length := by
  cases h : s.branches[b].state.inService with
  | true =>
    obtain ⟨hpcl, -⟩ := resetWork_completes (seq := seq) h
    rw [hpcl]
    exact List.length_filter_le _ _
  | false => rw [resetWork_outOfService seq h]

theorem resetWork_serving {n : Nat} {s : State} (seq : BitVec 8) (b : BranchId) (hs : Serving n s) :
    Serving n (s.resetWork seq b) := by
  cases h : s.branches[b].state.inService with
  | false =>
    rw [resetWork_outOfService seq h]
    exact (complete_keepsTrunk _ (.refl s)).serving hs
  | true =>
    obtain ⟨hwaiting, himmediate⟩ := resetWork_counts seq h
    obtain ⟨-, hreplies, -⟩ := resetWork_settles seq h
    have hrefusals : (s.resetWork seq b).replyQ.countP Reply.isRefusal = s.replyQ.countP Reply.isRefusal := by
      rw [hreplies, countP_refusals_append fun r => owed_not_refusal]
    have hpending := (resetWork_pcl_length_le s seq b).trans (List.length_filter_le _ _)
    refine hs.of_counts (by rw [State.resetWork_trunk]) ?_ (hpending.trans hs.pending) (by rw [hwaiting, State.resetWork_acc])
    simp only [State.creditsHeld, hrefusals, himmediate, State.resetWork_intake, State.resetWork_acc, le_refl]

/-- A reset has a place on the list: one is free, or the fence of its branch leaves it one (R96, R182). -/
theorem resetWork_room {s : State} {b : BranchId} (seq : BitVec 8) (hpending : s.pcl.length ≤ Config.pclCapacity)
    (hroom : (∃ r ∈ s.pcl, r.op = .fence b) ∨ s.pcl.length < Config.pclCapacity) :
    (s.resetWork seq b).pcl.length < Config.pclCapacity := by
  refine (resetWork_pcl_length_le s seq b).trans_lt ?_
  rcases hroom with ⟨r, hr, hop⟩ | hlt
  · refine lt_of_lt_of_le (List.length_filter_lt_length_iff_exists.mpr ⟨r, hr, ?_⟩) hpending
    simp [hop, abortFence]
  · exact (List.length_filter_le _ _).trans_lt hlt

theorem resetBranch_serving {s : State} (c : Control) (b : BranchId) (hs : Serving 1 s) : Serving 0 (s.resetBranch c b) := by
  by_cases hst : s.branches[b].state = .resetting
  · rw [resetBranch_already c hst]
    exact answerNow_serving hs c _ _
  · by_cases hroom : (∃ r ∈ s.pcl, r.op = .fence b) ∨ s.pcl.length < 4
    · rw [resetBranch_accepted c hst hroom]
      exact accept_serving ((resetWork_serving c.seq b hs).of_frame (setBranch_frame _ b _) (by decide)) c _
        (resetWork_room c.seq hs.pending hroom)
    · obtain ⟨hfence, hfull⟩ := not_or.mp hroom
      rw [resetBranch_busy c hst hfence (not_lt.mp hfull)]
      exact answerNow_serving hs c _ _

/-! ## Sends -/

/-- The arbiter chooses on an UP trunk alone (R150). -/
theorem serving_of_choice {s : State} {k : TrunkChoice} (hs : TrunkOk s) (h : s.trunkChoice = some k) : Serving 0 s :=
  serving_of_up hs (trunkChoice_some h).1

theorem transmit_serving {n : Nat} {s : State} (f : TrunkFrame) (p : Source) (hs : Serving n s) : Serving n (s.transmit f p) :=
  ⟨hs.up, hs.held, hs.pending, hs.answers⟩

/-- A Reply that is sent returns the credit if it is a refusal's; no other Reply holds one (R138, R152). -/
theorem sendReply_trunkOk {s : State} (hs : TrunkOk s) : Leaves TrunkOk (execSendReply s) := by
  unfold execSendReply
  split
  case h_2 => exact leaves_fault
  case h_1 r rest hchoice hq =>
    have hserving := serving_of_choice hs hchoice
    refine leaves_next (Serving.trunkOk ?_)
    cases ho : r.origin with
    | entry e =>
      have hrest : Serving 0 { s with replyQ := rest } := by
        refine hserving.of_counts rfl ?_ hserving.pending le_rfl
        simp [State.creditsHeld, hq, Reply.isRefusal, ho]
      exact (transmit_serving r.frame .notice hrest).of_frame (ks := [.entries])
        (by simp [sameBut_iff, State.replySent]) (by decide)
    | refusal =>
      have hrest : Serving 1 { s with replyQ := rest } := by
        refine hserving.of_counts rfl ?_ hserving.pending le_rfl
        simp only [State.creditsHeld, hq, List.countP_cons, Reply.isRefusal, ho, decide_true, if_true]
        omega
      exact returnCredit_serving (transmit_serving r.frame .notice hrest)

/-- A control reply that is sent returns the credit if it is IMMEDIATE; a COMPLETION holds none (R148, R153). -/
theorem sendControlReply_trunkOk {s : State} (hs : TrunkOk s) : Leaves TrunkOk (execSendControlReply s) := by
  unfold execSendControlReply
  split
  case h_2 => exact leaves_fault
  case h_1 c rest hchoice hq =>
    have hserving := serving_of_choice hs hchoice
    refine leaves_next (Serving.trunkOk ?_)
    cases hk : c.kind with
    | completion =>
      have hrest : Serving 0 { s with ctlQ := rest } := by
        refine hserving.of_counts rfl ?_ hserving.pending ?_
        · simp [State.creditsHeld, hq, ControlReply.isImmediate, hk]
        · simp [completions, hq, ControlReply.isImmediate, hk]
      exact transmit_serving c.frame .reply hrest
    | immediate =>
      have hrest : Serving 1 { s with ctlQ := rest } := by
        refine hserving.of_counts rfl ?_ hserving.pending ?_
        · simp only [State.creditsHeld, hq, List.countP_cons, ControlReply.isImmediate, hk, decide_true, if_true]
          omega
        · simp [completions, hq, ControlReply.isImmediate, hk]
      exact returnCredit_serving (transmit_serving c.frame .reply hrest)

theorem sendNotice_trunkOk {s : State} (hs : TrunkOk s) : Leaves TrunkOk (execSendNotice s) := by
  have hresend {u : State} (hu : Serving 0 u) : Serving 0 u.countResend :=
    hu.of_frame (ks := attentionBlocks) (by simp [sameBut_iff, attentionBlocks]) (by decide)
  unfold execSendNotice
  split
  case h_2 => exact leaves_fault
  case h_1 hchoice _ =>
    have hlist (ds : List Delivery) : Serving 0 { s with deliveries := ds } :=
      (serving_of_choice hs hchoice).of_frame (ks := [.deliveries]) (by simp [sameBut_iff]) (by decide)
    refine leaves_next (Serving.trunkOk ?_)
    split
    · exact hresend (transmit_serving _ _ (hlist _))
    · exact transmit_serving _ _ (hlist _)

/-- A CREDIT is sent only when no completion waits, so that the operations alone bound the answers to come (R149, R151). -/
theorem sendCredit_trunkOk {s : State} (hs : TrunkOk s) : Leaves TrunkOk (execSendCredit s) := by
  unfold execSendCredit
  split
  case h_2 => exact leaves_fault
  case h_1 hchoice =>
    have hserving := serving_of_choice hs hchoice
    obtain ⟨himmediate, -⟩ := trunkChoice_credit hchoice
    have hnone : completions s = 0 :=
      List.countP_eq_zero.mpr fun c hc => by simp [ControlReply.isImmediate, himmediate c hc]
    have hempty : Serving 0 { s with acc := 0 } := by
      refine ⟨hserving.up, (Nat.le_add_right _ s.acc).trans hserving.held, hserving.pending, ?_⟩
      exact (congrArg (· + s.pcl.length) hnone).le.trans (by simpa using hserving.pending)
    exact leaves_next (transmit_serving _ _ hempty).trunkOk

/-! ## Notices -/

theorem resendDeadlineExpiry_keepsTrunk (n : LineId) (s : State) : Leaves (KeepsTrunk s) (execResendDeadlineExpiry n s) := by
  refine leaves_guard fun _ => ⟨fun hs => hs.of_frame (ks := [.deliveries]) (by simp [sameBut_iff]) (by decide), fun hs => ?_⟩
  obtain ⟨hintake, hacc, hreplies, hctl, hpcl, hdeliveries, hidle, hentries, hqueues⟩ := hs
  exact ⟨hintake, hacc, hreplies, hctl, hpcl, by rw [hdeliveries]; rfl, hidle, hentries, hqueues⟩

/-- A line is selected while the trunk is UP alone (R111). -/
theorem selection_trunkOk {s : State} (hs : TrunkOk s) : Leaves TrunkOk (execSelection s) := by
  unfold execSelection
  split
  case isFalse => exact leaves_fault
  case isTrue h =>
    obtain ⟨hup, -⟩ := h
    split
    · exact leaves_next ((serving_of_up hs hup).of_frame (ks := [.deliveries, .lines]) (by simp [sameBut_iff]) (by decide)).trunkOk
    · exact leaves_fault

/-! ## Every command -/

theorem trunkOk_of_keeps {s : State} {r : Result} (hs : TrunkOk s) (h : Leaves (KeepsTrunk s) r) : Leaves TrunkOk r :=
  fun t ht => (h t ht).trunkOk hs

/-- A frame on a branch whose owner keeps the account. -/
theorem branchFrame_trunkOk {isRow : Bool} {f : Frame} {b : BranchId} {good : State → State} {s : State} (hs : TrunkOk s)
    (h : KeepsTrunk s (good s)) : Leaves TrunkOk (takeFrame isRow f (State.branchCheckFails b) good s) :=
  leaves_takeFrame (h.trunkOk hs) ((branchCheckFails_keepsTrunk b s).trunkOk hs)

/-- Every command keeps the credits, the operations and the completions within their bounds, and the trunk quiet out of service. -/
theorem exec_trunkOk (c : Instr) {s : State} (hs : TrunkOk s) : Leaves TrunkOk (exec c s) := by
  by_cases hw : ∀ k ∈ trunkBlocks, k ∉ writes c
  · exact exec_keeps_of_frame trunkOk_readsOnly hs hw
  have hport {b : BranchId} {br : Branch} (h : br.queue = s.branches[b].queue) : TrunkOk (s.setBranch b br) :=
    (setBranch_sameQueue_keepsTrunk h).trunkOk hs
  have hlost {b : BranchId} {br : Branch} (cause : LossCause) (h : br.queue = s.branches[b].queue) :
      TrunkOk (State.lossBy b cause (s.setBranch b br)) :=
    (lossBy_keepsTrunk b cause (setBranch_sameQueue_keepsTrunk h)).trunkOk hs
  cases c <;> simp only [exec]
  case powerOnReset => exact leaves_next (trunkOk_of_quiet (powerOn_quiet _ _ _))
  case leavePowerOnReset => exact trunkOk_of_keeps hs (leaveReset_keepsTrunk s)
  case trunkPartnerAppears =>
    refine leaves_next (trunk_trunkOk hs (fun hup => ?_) id)
    simp [hup]
  case trunkTrainingComplete => exact trunkTrainingComplete_trunkOk hs
  case trunkCheckFailure => exact leaves_next (trunkCheckFails_trunkOk hs)
  case trunkResetSequenceReceived =>
    refine leaves_next ?_
    split
    · exact trunkOk_of_quiet (trunkReset_quiet false s)
    · exact hs
  case trunkPartnerLost => exact trunkPartnerLost_trunkOk hs
  case intakeArrival f => exact leaves_takeFrame (arrive_trunkOk _ hs) (trunkCheckFails_trunkOk hs)
  case noticeAck f => exact leaves_takeFrame (takeAck_trunkOk _ hs) (trunkCheckFails_trunkOk hs)
  case trunkCreditReceived f => exact leaves_takeFrame hs (trunkCheckFails_trunkOk hs)
  case trunkUnexpectedFrame f =>
    exact leaves_takeFrame ((trunkUnexpected_keepsTrunk _ s).trunkOk hs) (trunkCheckFails_trunkOk hs)
  case trunkFrameSent => exact leaves_next (trunk_trunkOk hs id fun _ => rfl)
  case sendReply => exact sendReply_trunkOk hs
  case sendControlReply => exact sendControlReply_trunkOk hs
  case sendNotice => exact sendNotice_trunkOk hs
  case sendCredit => exact sendCredit_trunkOk hs
  case routeExamination => exact routeExamination_trunkOk hs
  case badCommand => exact takeControl_trunkOk hs fun c u hu => answerNow_serving hu c _ _
  case loadWindow => exact command_trunkOk hs fun c o u hu => loadWindow_serving c o hu
  case readWindow | readLine | readStatus | identify => exact command_trunkOk hs fun c _ u hu => answerNow_serving hu c _ _
  case retireWindow => exact command_trunkOk hs fun c w u hu => retireWindow_serving c w hu
  case loadLine =>
    exact command_trunkOk hs fun c o u hu =>
      written_answered_serving (ks := [.lines]) c _ _ hu (by simp [sameBut_iff]) (by decide)
  case setTiming =>
    exact command_trunkOk hs fun c k u hu =>
      written_answered_serving (ks := [.timing]) c _ _ hu (by simp [sameBut_iff]) (by decide)
  case fenceBranch => exact command_trunkOk hs fun c o u hu => fenceBranch_serving c o.1 o.2 hu
  case unfenceBranch => exact command_trunkOk hs fun c b u hu => unfenceBranch_serving c b hu
  case resetBranch => exact command_trunkOk hs fun c b u hu => resetBranch_serving c b hu
  case takeFaults =>
    exact command_trunkOk hs fun c n u hu =>
      written_answered_serving (ks := [.faults]) c _ _ hu (by simp [sameBut_iff]) (by decide)
  case clearCounters =>
    exact command_trunkOk hs fun c _ u hu =>
      written_answered_serving (ks := [.counters]) c _ _ hu (by simp [sameBut_iff]) (by decide)
  case clearPath =>
    exact command_trunkOk hs fun c _ u hu => answerNow_serving ((clearPath_keepsTrunk u).serving hu) c _ _
  case branchPartnerAppears b => exact leaves_next (hport rfl)
  case branchTrainingComplete b capacity =>
    refine leaves_next ?_
    split
    · exact hs
    · exact (branchTrained_keepsTrunk b _ s).trunkOk hs
  case branchPartnerLost b =>
    refine leaves_next ?_
    split
    · exact hlost .signalLost rfl
    · exact hport rfl
  case branchCheckFailure b => exact leaves_next ((branchCheckFails_keepsTrunk b s).trunkOk hs)
  case branchResetSequenceReceived b =>
    refine leaves_next ?_
    split
    · exact (lossBy_keepsTrunk b .partnerReset (.refl s)).trunkOk hs
    · exact hs
  case stallTimerExpiry b => exact leaves_guard fun _ => hlost .stall rfl
  case partnerWaitExpiry b =>
    exact leaves_guard fun _ => KeepsTrunk.trunkOk (complete_keepsTrunk _ (setBranch_sameQueue_keepsTrunk rfl)) hs
  case branchReply b f => exact branchFrame_trunkOk hs (takeReply_keepsTrunk b _ _ _ s)
  case branchCredit b f => exact branchFrame_trunkOk hs (takeCredit_keepsTrunk b _ s)
  case branchNotice b f => exact branchFrame_trunkOk hs (keepsTrunk_of_frame (takeNotice_frame b _ s) (by decide))
  case withdraw b f => exact branchFrame_trunkOk hs (takeWithdraw_keepsTrunk b s)
  case unitReturn b f => exact branchFrame_trunkOk hs (takeReturn_keepsTrunk b s)
  case branchUnexpectedFrame b f =>
    exact branchFrame_trunkOk hs (keepsTrunk_of_frame (branchUnexpected_frame b _ s) (by decide))
  case branchFrameSent b => exact leaves_next (hport rfl)
  case sendGrant b => exact leaves_guard fun _ => hport rfl
  case sendReclaim b => exact leaves_guard fun _ => hport rfl
  case sendRelease b =>
    simp only [execSendRelease]
    split
    · exact leaves_next (hport rfl)
    · exact leaves_fault
  case issueNonPosted b => exact trunkOk_of_keeps hs (issueNonPosted_keepsTrunk b s)
  case issuePosted b => exact trunkOk_of_keeps hs (issuePosted_keepsTrunk b s)
  case requestDeadlineExpiry e => exact trunkOk_of_keeps hs (requestDeadlineExpiry_keepsTrunk e s)
  case lingerExpiry e => exact trunkOk_of_keeps hs (lingerExpiry_keepsTrunk e s)
  case resendDeadlineExpiry n => exact trunkOk_of_keeps hs (resendDeadlineExpiry_keepsTrunk n s)
  case selection => exact selection_trunkOk hs
  case drainComplete b => exact leaves_next ((settle_keepsTrunk _ _ (.refl s)).trunkOk hs)
  case retireComplete w => exact leaves_next ((settle_keepsTrunk _ _ (.refl s)).trunkOk hs)

/-- Settles O57: in service every frame taken deals with its credit, and what a command completes it answers; out of service nothing
is held that an event could answer. -/
theorem invariantTrunk : Obligations.InvariantTrunk := fun _ t hs h =>
  step_keeps trunkOk_readsOnly (by decide) (fun c _ => exec_trunkOk c) hs t h

end Sys2Proof.Machine
end

section
/-! A frame arrives at the intake (R131), and a request at its head is refused or waits (R136, R138, R139). -/

namespace Sys2Proof.Machine

open Sys2Proof.Safety

/-! ## Arrivals -/

section
variable {s : State} {x : IntakeFrame} (hup : s.trunk.state = .up)
include hup

theorem arrive_of_room (h : s.creditsHeld < 16) : s.arrive x = { s with intake := s.intake ++ [x] } := by
  rw [State.arrive, if_neg (not_not.mpr hup)]
  exact if_pos h

theorem arrive_of_overrun (h : 16 ≤ s.creditsHeld) : s.arrive x = s.recordFault (s.overrunRecord x) := by
  rw [State.arrive, if_neg (not_not.mpr hup)]
  exact if_neg (not_lt.mpr h)

end

/-- The ops that carry an upstream tag, by their codes (R168). -/
theorem nonPosted_isSome_iff (c : BitVec 3) : ((Op.ofCode c).bind Op.nonPosted).isSome = true ↔ c = 0 ∨ c = 1 ∨ c = 3 := by
  revert c
  decide

/-- The CREDIT-OVERRUN record of a frame, in the fields of the frame (R131, R168, R187). -/
theorem overrunRecord_ofFrame (s : State) (f : Frame) : s.overrunRecord (.ofFrame f) =
    { kind := .creditOverrun, timestamp := s.timeBase
      address := if f.kind = 1 then some f.requestAddress else none
      upTag := if f.kind = 1 ∧ (f.requestOp = 0 ∨ f.requestOp = 1 ∨ f.requestOp = 3) then some f.requestTag else none } := by
  unfold IntakeFrame.ofFrame
  by_cases hkind : f.kind = 1
  · simp only [State.overrunRecord, Request.ofFrame, nonPosted_isSome_iff, hkind, if_true, true_and]
  · rw [if_neg hkind, if_neg hkind, if_neg fun h => hkind h.1]
    rfl

/-- Settles O10: the frame is judged against the credits held, and an overrun is its record and nothing else. -/
theorem intakeArrival : Obligations.IntakeArrival := by
  intro f s hrow hsize hup
  have hexec : exec (.intakeArrival f) s = .next (s.arrive (.ofFrame f)) := takeFrame_good hrow hsize
  refine ⟨fun hroom => ⟨_, hexec, ?_, ?_⟩, fun hfull => ⟨_, hexec, ?_, ?_⟩⟩
  · rw [arrive_of_room hup hroom]
  · rw [arrive_of_room hup hroom]
    simp [sameBut_iff]
  · rw [arrive_of_overrun hup hfull, overrunRecord_ofFrame]
    exact ⟨rfl, rfl, rfl⟩
  · rw [arrive_of_overrun hup hfull]
    exact recordFault_frame _ s

/-! ## Refusals and waits -/

section
variable {s : State} {r : Request} {rest : List IntakeFrame} (h : s.intake = .request r :: rest)
include h

theorem exec_routeExamination_refuse {st : ReplyStatus} {b : Option BranchId} (hv : s.examine r = .refuse st b) :
    exec .routeExamination s = .next (State.refuse r st b { s with intake := rest }) := by
  show execRouteExamination s = _
  unfold execRouteExamination
  simp only [h, hv]

/-- A request that waits stays at the head (R136). -/
theorem exec_routeExamination_wait (hv : s.examine r = .wait) : exec .routeExamination s = .next s := by
  show execRouteExamination s = _
  unfold execRouteExamination
  simp only [h, hv]

end

/-- A refused READ, WRITE, SWAP or unknown op has its Reply placed (R138). -/
theorem refuse_of_not_posted {r : Request} (h : r.op ≠ 2) (st : ReplyStatus) (b : Option BranchId) (s : State) :
    s.refuse r st b = s.placeReply ⟨r.tag, st, [], .refusal⟩ :=
  if_neg fun hp => h ((isPosted_iff r).mp hp)

/-- A refused POSTED-WRITE has its credit returned and is recorded (R139). -/
theorem refuse_of_posted {r : Request} (h : r.op = 2) (st : ReplyStatus) (b : Option BranchId) (s : State) :
    s.refuse r st b = s.returnCredit.recordFault
      { kind := .postedDropped, timestamp := s.timeBase, branch := b, address := some r.address, cause := some (.refusal st) } :=
  if_pos ((isPosted_iff r).mpr h)

/-- Settles O19: the verdict decides the examination, and a refusal is told apart by whether the request is posted. -/
theorem refusalsAndWaits : Obligations.RefusalsAndWaits := by
  intro r rest s h
  refine ⟨fun st b hv => ⟨fun hop => ⟨_, exec_routeExamination_refuse h hv, ?_⟩,
    fun hop => ⟨_, exec_routeExamination_refuse h hv, ?_⟩⟩, fun hv => exec_routeExamination_wait h hv⟩
  · rw [refuse_of_not_posted hop]
    exact ⟨rfl, rfl, by simp [sameBut_iff]⟩
  · rw [refuse_of_posted hop]
    exact ⟨State.recordFault_intake _ _, State.recordFault_acc _ _, attention_recordFault _ ⟨rfl, rfl, rfl⟩,
      by simp [sameBut_iff]⟩

end Sys2Proof.Machine
end

section
/-! What the arbiter chooses (R150, R151), and the sends of a Reply, a control reply and a CREDIT (R142, R152, R153). -/

namespace Sys2Proof.Machine

open Sys2Proof.Safety

/-! ## The choice -/

/-- A source that has something to send, as a choice. -/
def State.offered (s : State) (k : Source) : Option TrunkChoice := if s.offers k then some k.choice else none

theorem offered_control (s : State) : s.offered .control = if s.ctlQ = [] then none else some .control := by
  cases hq : s.ctlQ <;> simp [State.offered, State.offers, Source.choice, hq]

theorem offered_reply (s : State) : s.offered .reply = if s.replyQ = [] then none else some .reply := by
  cases hq : s.replyQ <;> simp [State.offered, State.offers, Source.choice, hq]

theorem offered_notice (s : State) :
    s.offered .notice = if ∀ d ∈ s.deliveries, d.due = false then none else some .notice := by
  have hoffers : s.offers .notice = true ↔ ¬∀ d ∈ s.deliveries, d.due = false := by simp [State.offers]
  by_cases hdue : ∀ d ∈ s.deliveries, d.due = false
  · rw [if_pos hdue, State.offered, if_neg fun h => hoffers.mp h hdue]
  · rw [if_neg hdue, State.offered, if_pos (hoffers.mpr hdue)]
    rfl

/-- The rotation takes the first of its sources that has something to send (R151). -/
theorem find_offers_map_choice (s : State) (a b c : Source) :
    ([a, b, c].find? s.offers).map Source.choice = (s.offered a).or ((s.offered b).or (s.offered c)) := by
  have hstep (k : Source) (ks : List Source) :
      ((k :: ks).find? s.offers).map Source.choice = (s.offered k).or ((ks.find? s.offers).map Source.choice) := by
    cases hk : s.offers k <;> simp [State.offered, hk]
  rw [hstep, hstep, hstep, List.find?_nil, Option.map_none, Option.or_none]

theorem trunkChoice_of_not_ready {s : State} (h : s.trunk.state ≠ .up ∨ s.trunk.tx ≠ none) : s.trunkChoice = none :=
  if_pos h

theorem not_any_completion {q : List ControlReply} (h : ∀ r ∈ q, r.kind = .immediate) :
    ¬q.any (fun c => decide (c.kind = .completion)) = true := by
  simp +contextual [h]

section
variable {s : State} (hup : s.trunk.state = .up) (htx : s.trunk.tx = none)
include hup htx

theorem trunkChoice_of_completion (h : ∃ r ∈ s.ctlQ, r.kind = .completion) : s.trunkChoice = some .control := by
  rw [State.trunkChoice, if_neg (by simp [hup, htx]), if_pos (by simpa using h)]

variable (himmediate : ∀ r ∈ s.ctlQ, r.kind = .immediate)
include himmediate

theorem trunkChoice_of_credit (hacc : 0 < s.acc) : s.trunkChoice = some .credit := by
  rw [State.trunkChoice, if_neg (by simp [hup, htx]), if_neg (not_any_completion himmediate), if_pos hacc]

/-- With neither a COMPLETION nor a credit to send, the arbiter goes round from the pointer (R151). -/
theorem trunkChoice_of_rotation (hacc : s.acc = 0) : s.trunkChoice =
    (s.offered s.trunk.pointer).or ((s.offered s.trunk.pointer.next).or (s.offered s.trunk.pointer.next.next)) := by
  rw [State.trunkChoice, if_neg (by simp [hup, htx]), if_neg (not_any_completion himmediate), if_neg (by simp [hacc]),
    find_offers_map_choice]

end

/-! ## Sends that are not the choice -/

theorem exec_sendControlReply_stops {s : State} (h : s.trunkChoice ≠ some .control) :
    exec .sendControlReply s = .fault .notTrunkChoice := by
  show execSendControlReply s = _
  unfold execSendControlReply
  split
  · exact absurd ‹_› h
  · rfl

theorem exec_sendCredit_stops {s : State} (h : s.trunkChoice ≠ some .credit) :
    exec .sendCredit s = .fault .notTrunkChoice := by
  show execSendCredit s = _
  unfold execSendCredit
  split
  · exact absurd ‹_› h
  · rfl

theorem exec_sendReply_stops {s : State} (h : s.trunkChoice ≠ some .reply) :
    exec .sendReply s = .fault .notTrunkChoice := by
  show execSendReply s = _
  unfold execSendReply
  split
  · exact absurd ‹_› h
  · rfl

theorem exec_sendNotice_stops {s : State} (h : s.trunkChoice ≠ some .notice) :
    exec .sendNotice s = .fault .notTrunkChoice := by
  show execSendNotice s = _
  unfold execSendNotice
  split
  · exact absurd ‹_› h
  · rfl

/-- Settles O17: the order of the arbiter's clauses, the rotation from each value of the pointer, and the four stops. -/
theorem arbiterOrder : Obligations.ArbiterOrder := by
  intro s
  refine ⟨trunkChoice_of_not_ready, fun hup htx => ⟨trunkChoice_of_completion hup htx, trunkChoice_of_credit hup htx,
    fun himmediate hacc => ?_⟩, exec_sendControlReply_stops, exec_sendCredit_stops, exec_sendReply_stops,
    exec_sendNotice_stops⟩
  intro control reply notice
  have hcontrol : s.offered .control = control := offered_control s
  have hreply : s.offered .reply = reply := offered_reply s
  have hnotice : s.offered .notice = notice := offered_notice s
  rw [trunkChoice_of_rotation hup htx himmediate hacc, ← hcontrol, ← hreply, ← hnotice]
  cases s.trunk.pointer <;> rfl

/-! ## Sends that are the choice -/

theorem exec_sendReply {s : State} {r : Reply} {rest : List Reply} (hchoice : s.trunkChoice = some .reply)
    (hq : s.replyQ = r :: rest) : exec .sendReply s =
      .next (State.replySent r.origin (State.transmit r.frame .notice { s with replyQ := rest })) := by
  simp only [exec, execSendReply, hchoice, hq]

theorem exec_sendControlReply {s : State} {c : ControlReply} {rest : List ControlReply}
    (hchoice : s.trunkChoice = some .control) (hq : s.ctlQ = c :: rest) : exec .sendControlReply s =
      .next (State.controlSent c.kind (State.transmit c.frame .reply { s with ctlQ := rest })) := by
  simp only [exec, execSendControlReply, hchoice, hq]

theorem exec_sendCredit {s : State} (hchoice : s.trunkChoice = some .credit) :
    exec .sendCredit s = .next (State.transmit (.credit s.acc) s.trunk.pointer { s with acc := 0 }) := by
  simp only [exec, execSendCredit, hchoice]

theorem replySent_refusal (s : State) : s.replySent .refusal = s.returnCredit := rfl

theorem replySent_entry (s : State) (e : EntryId) :
    s.replySent (.entry e) = s.setEntry e (s.entries[e].sent s.timeBase s.timing) := rfl

/-- A sent control reply returns the credit that it holds, if it holds one (R153). -/
theorem controlSent_eq (k : ControlKind) (s : State) :
    s.controlSent k = { s with acc := if k = .immediate then s.acc + 1 else s.acc } := by
  cases k <;> rfl

/-- Settles O15: the send of a Reply by its origin, of a control reply by its kind, and of the CREDIT. -/
theorem sendsOfAnswersAndCredit : Obligations.SendsOfAnswersAndCredit := by
  refine ⟨fun r rest s hchoice hq => ⟨_, exec_sendReply hchoice hq, ?_⟩,
    fun c rest s hchoice hq => ⟨_, exec_sendControlReply hchoice hq, ?_⟩, fun s hchoice => ⟨_, exec_sendCredit hchoice, ?_⟩⟩
  · cases horigin : r.origin with
    | refusal =>
      rw [replySent_refusal]
      exact ⟨rfl, rfl, by simp [sameBut_iff], fun _ => ⟨rfl, rfl⟩, nofun⟩
    | entry e =>
      rw [replySent_entry]
      refine ⟨rfl, rfl, by simp [sameBut_iff], nofun, ?_⟩
      rintro _ ⟨⟩
      exact ⟨rfl, setEntry_other _ e _, fun h => ⟨fun hheld => by simp [Entry.sent, hheld],
        fun hheld => by simp [Entry.sent, hheld]⟩⟩
  · rw [controlSent_eq]
    exact ⟨rfl, rfl, rfl, by simp [sameBut_iff]⟩
  · exact ⟨rfl, rfl, by simp [sameBut_iff]⟩

end Sys2Proof.Machine
end

section
/-! The bounds of the two reply queues (R147, R149): what each record holds is bounded elsewhere, a credit for a refusal and for an
IMMEDIATE record, an operation or a returned credit for a COMPLETION, an ANSWERED entry for any other Reply. -/

namespace Sys2Proof.Machine

open Sys2Proof.Safety

/-- A Reply is a refusal's, or that of exactly one entry (R146). -/
theorem length_replies_by_origin (q : List Reply) :
    q.length = q.countP Reply.isRefusal + ∑ e : EntryId, q.countP fun r => decide (r.origin = .entry e) := by
  induction q with
  | nil => simp
  | cons r q ih =>
    have hone : (if r.isRefusal then 1 else 0) + ∑ e : EntryId, (if r.origin = .entry e then 1 else 0) = 1 := by
      cases ho : r.origin <;> simp [Reply.isRefusal, ho]
    simp only [List.length_cons, List.countP_cons, decide_eq_true_eq, Finset.sum_add_distrib]
    omega

/-- At most 16 refusals hold a credit, and each of the 48 entries awaits at most one Reply (R147). -/
theorem replyQ_length_le {s : State} (hs : TrunkOk s) (hr : RepliesOk s) : s.replyQ.length ≤ 64 := by
  obtain ⟨hheld, -⟩ := hs
  obtain ⟨hone, -⟩ := hr
  have hrefusals : s.replyQ.countP Reply.isRefusal ≤ 16 := by
    simp only [State.creditsHeld, Config.intakeCapacity] at hheld
    omega
  have hentries : ∑ e : EntryId, s.replyQ.countP (fun r => decide (r.origin = .entry e)) ≤ 48 :=
    calc ∑ e : EntryId, s.replyQ.countP (fun r => decide (r.origin = .entry e))
      _ ≤ ∑ _e : EntryId, 1 := Finset.sum_le_sum fun e _ => by
        rw [hone e]
        split <;> omega
      _ = 48 := by simp
  rw [length_replies_by_origin]
  omega

/-- The IMMEDIATE records and the accumulator share 16 credits; the COMPLETION records exceed four by no more than the
accumulator (R149). -/
theorem ctlQ_length_le {s : State} (hs : TrunkOk s) : s.ctlQ.length ≤ 20 := by
  obtain ⟨hheld, -, hanswers, -⟩ := hs
  have hkinds : s.ctlQ.length = s.ctlQ.countP ControlReply.isImmediate + completions s :=
    (List.length_eq_countP_add_countP ControlReply.isImmediate).trans (by simp [completions])
  simp only [State.creditsHeld, Config.intakeCapacity, Config.pclCapacity] at hheld hanswers
  omega

/-- Settles O60: the records counted by what they hold. -/
theorem replyQueueBounds : Obligations.ReplyQueueBounds := fun _ => ⟨ctlQ_length_le, replyQ_length_le⟩

end Sys2Proof.Machine
end

section
/-! The words of a frame read back by the layouts of 9.7 (R158, R168 to R172): each header holds its fields at the bits from which a
receiver takes them, and the frames keep to the sizes of their kinds. -/

namespace Sys2Proof.Machine

/-! ## The header words -/

/-- A field that lies above the lowest part of a word is a field of the rest of the word. -/
theorem field_above {v w start len : Nat} {hi : BitVec v} {lo : BitVec w} {x : BitVec len}
    (hx : hi.extractLsb' (start - w) len = x) (h : w ≤ start := by decide) : (hi ++ lo).extractLsb' start len = x :=
  (BitVec.extractLsb'_append_eq_of_le h).trans hx

/-- A REQUEST header: kind, op, tag, length and hop budget over eleven zeros (9.7). -/
theorem requestHeader_fields (op : BitVec 3) (tag : BitVec 6) (length : BitVec 5) (hop : BitVec 3) :
    (requestHeader op tag length hop).extractLsb' 28 4 = 1 ∧ (requestHeader op tag length hop).extractLsb' 25 3 = op ∧
    (requestHeader op tag length hop).extractLsb' 19 6 = tag ∧ (requestHeader op tag length hop).extractLsb' 14 5 = length ∧
    (requestHeader op tag length hop).extractLsb' 11 3 = hop :=
  ⟨field_above (field_above (field_above (field_above (field_above BitVec.extractLsb'_eq_self)))),
    field_above (field_above (field_above (field_above BitVec.extractLsb'_append_eq_right))),
    field_above (field_above (field_above BitVec.extractLsb'_append_eq_right)),
    field_above (field_above BitVec.extractLsb'_append_eq_right),
    field_above BitVec.extractLsb'_append_eq_right⟩

/-- A word of kind and low byte: NOTICE, NOTICE-ACK, RELEASE (R170). -/
theorem byteFrame_fields (kind : BitVec 4) (v : BitVec 8) :
    (byteFrame kind v).extractLsb' 28 4 = kind ∧ (byteFrame kind v).extractLsb' 0 8 = v :=
  ⟨field_above (field_above BitVec.extractLsb'_eq_self), BitVec.extractLsb'_append_eq_right⟩

/-- A REPLY header: kind, status and tag over eighteen zeros (9.7). -/
theorem replyHeader_fields (st : BitVec 4) (tag : BitVec 6) :
    (2#4 ++ st ++ tag ++ 0#18 : Word).extractLsb' 28 4 = 2 ∧ (2#4 ++ st ++ tag ++ 0#18 : Word).extractLsb' 24 4 = st ∧
    (2#4 ++ st ++ tag ++ 0#18 : Word).extractLsb' 18 6 = tag :=
  ⟨field_above (field_above (field_above BitVec.extractLsb'_eq_self)),
    field_above (field_above BitVec.extractLsb'_append_eq_right),
    field_above BitVec.extractLsb'_append_eq_right⟩

/-- A CREDIT word: kind and count field (R172). -/
theorem creditWord_fields (n : BitVec 4) :
    (5#4 ++ 0#24 ++ n : Word).extractLsb' 28 4 = 5 ∧ (5#4 ++ 0#24 ++ n : Word).extractLsb' 0 4 = n :=
  ⟨field_above (field_above BitVec.extractLsb'_eq_self), BitVec.extractLsb'_append_eq_right⟩

/-- A CONTROL-REPLY header: kind, sequence and status over sixteen zeros (9.7). -/
theorem controlReplyHeader_fields (seq : BitVec 8) (st : BitVec 4) :
    (6#4 ++ seq ++ st ++ 0#16 : Word).extractLsb' 28 4 = 6 ∧ (6#4 ++ seq ++ st ++ 0#16 : Word).extractLsb' 20 8 = seq ∧
    (6#4 ++ seq ++ st ++ 0#16 : Word).extractLsb' 16 4 = st ∧ (6#4 ++ seq ++ st ++ 0#16 : Word).extractLsb' 0 16 = 0 :=
  ⟨field_above (field_above (field_above BitVec.extractLsb'_eq_self)),
    field_above (field_above BitVec.extractLsb'_append_eq_right),
    field_above BitVec.extractLsb'_append_eq_right,
    BitVec.extractLsb'_append_eq_right⟩

/-! ## Codes -/

/-- Four bits hold every Reply status code (9.7). -/
theorem replyStatus_code_toNat (st : ReplyStatus) : (BitVec.ofNat 4 st.code).toNat = st.code := by
  cases st <;> rfl

/-- Four bits hold every control status code (9.7). -/
theorem controlStatus_code_toNat (st : ControlStatus) : (BitVec.ofNat 4 st.code).toNat = st.code := by
  cases st <;> rfl

/-! ## Sizes -/

/-- The size limits of R158 as conditions. -/
theorem sizeOk_iff (f : Frame) : f.sizeOk = true ↔ 1 ≤ f.length ∧ f.length ≤ 32 ∧ (f.kind = 1 → 2 ≤ f.length) ∧
    (Frame.oneWordKind f.kind = true → f.length = 1) := by
  simp only [Frame.sizeOk, Bool.and_eq_true, decide_eq_true_eq, Bool.or_eq_true, bne_iff_ne, Bool.not_eq_true', and_assoc,
    ← imp_iff_not_or, Bool.eq_false_iff]

/-- One word is enough for every kind but the REQUEST. -/
theorem sizeOk_singleton {w : Word} (h : Frame.kind [w] ≠ 1) : Frame.sizeOk [w] = true :=
  (sizeOk_iff _).mpr ⟨le_rfl, Nat.one_le_ofNat, fun hkind => absurd hkind h, fun _ => rfl⟩

/-- A kind that may hold more than one word is held to 32 words, and a REQUEST to 2 or more. -/
theorem sizeOk_of_kind {f : Frame} {k : BitVec 4} (hkind : f.kind = k) (hk : Frame.oneWordKind k = false) (hlow : 1 ≤ f.length)
    (hhigh : f.length ≤ 32) (hrequest : k = 1 → 2 ≤ f.length) : f.sizeOk = true := by
  refine (sizeOk_iff f).mpr ⟨hlow, hhigh, fun h => hrequest (hkind.symm.trans h), fun hone => ?_⟩
  rw [hkind, hk] at hone
  exact Bool.noConfusion hone

/-! ## The frames -/

/-- A REQUEST sent down a branch reads as that request (R168). -/
theorem requestFrame_reads (op : Op) (tag : BitVec 6) (address : Word) (length : BitVec 5) (hop : BitVec 3) (data : List Word) :
    let f : Frame := BranchFrame.words (.request op tag address length hop data)
    f.kind = 1 ∧ IntakeFrame.ofFrame f = .request ⟨op.code, tag, length, hop, address, data⟩ ∧ Op.ofCode op.code = some op ∧
    (data.length ≤ 30 → f.sizeOk = true) := by
  intro f
  obtain ⟨hkind, hcode, htag, hlength, hhop⟩ := requestHeader_fields op.code tag length hop
  have hread : Request.ofFrame f = ⟨op.code, tag, length, hop, address, data⟩ :=
    (Request.mk.injEq ..).mpr ⟨hcode, htag, hlength, hhop, rfl, rfl⟩
  exact ⟨hkind, (if_pos hkind).trans (congrArg IntakeFrame.request hread), (ofCode_eq_some_iff _ _).mpr rfl, fun hdata =>
    sizeOk_of_kind hkind rfl (Nat.le_add_left _ _) (Nat.add_le_add_right hdata 2) fun _ => Nat.le_add_left _ _⟩

/-- A RELEASE sent down a branch reads as a NOTICE-ACK with its line (R170). -/
theorem releaseFrame_reads (l : Fin 8) :
    let f : Frame := BranchFrame.words (.release l)
    f.kind = 4 ∧ f.lineOrVector.toNat = l.val ∧ f.sizeOk = true := by
  intro f
  obtain ⟨hkind, hline⟩ := byteFrame_fields 4 (BitVec.ofNat 8 l.val)
  exact ⟨hkind, (congrArg BitVec.toNat hline).trans (Nat.mod_eq_of_lt (by omega)),
    sizeOk_singleton (ne_of_eq_of_ne hkind (by decide))⟩

/-- A REPLY sent up the trunk reads as that reply (R169). -/
theorem replyFrame_reads (tag : BitVec 6) (st : ReplyStatus) (data : List Word) :
    let f : Frame := TrunkFrame.words (.reply tag st data)
    f.kind = 2 ∧ f.replyTag = tag ∧ f.replyStatus.toNat = st.code ∧ ReplyStatus.ofCode f.replyStatus = st ∧
    f.replyData = data ∧ (data.length ≤ 31 → f.sizeOk = true) := by
  intro f
  obtain ⟨hkind, hstatus, htag⟩ := replyHeader_fields (BitVec.ofNat 4 st.code) tag
  have hcode : f.replyStatus.toNat = st.code := (congrArg BitVec.toNat hstatus).trans (replyStatus_code_toNat st)
  exact ⟨hkind, htag, hcode, replyStatus_ofCode_eq hcode, rfl, fun hdata =>
    sizeOk_of_kind hkind rfl (Nat.le_add_left _ _) (Nat.add_le_add_right hdata 1) fun h => absurd h (by decide)⟩

/-- A NOTICE sent up the trunk carries its vector (R170). -/
theorem noticeFrame_reads (v : BitVec 8) :
    let f : Frame := TrunkFrame.words (.notice v)
    f.kind = 3 ∧ f.lineOrVector = v ∧ f.sizeOk = true := by
  intro f
  obtain ⟨hkind, hvector⟩ := byteFrame_fields 3 v
  exact ⟨hkind, hvector, sizeOk_singleton (ne_of_eq_of_ne hkind (by decide))⟩

/-- A CREDIT of 1 to 16 carries its count less one (R172). -/
theorem creditFrame_reads {n : Nat} (hlow : 1 ≤ n) (hhigh : n ≤ 16) :
    let f : Frame := TrunkFrame.words (.credit n)
    f.kind = 5 ∧ f.creditCount = n ∧ f.sizeOk = true := by
  intro f
  obtain ⟨hkind, hcount⟩ := creditWord_fields (BitVec.ofNat 4 (n - 1))
  refine ⟨hkind, ?_, sizeOk_singleton (ne_of_eq_of_ne hkind (by decide))⟩
  have hless : (f.header.extractLsb' 0 4).toNat = n - 1 :=
    (congrArg BitVec.toNat hcount).trans (Nat.mod_eq_of_lt (by omega))
  rw [Frame.creditCount, hless, Nat.sub_add_cancel hlow]

/-- A CONTROL-REPLY carries its sequence, its status and its result (R171, 9.7). -/
theorem controlReplyFrame_reads (seq : BitVec 8) (st : ControlStatus) (result : List Word) :
    let f : Frame := TrunkFrame.words (.controlReply seq st result)
    f.kind = 6 ∧ f.sequence = seq ∧ (f.header.extractLsb' 16 4).toNat = st.code ∧ f.header.extractLsb' 0 16 = 0 ∧
    f.body = result := by
  intro f
  obtain ⟨hkind, hseq, hstatus, hzero⟩ := controlReplyHeader_fields seq (BitVec.ofNat 4 st.code)
  exact ⟨hkind, hseq, (congrArg BitVec.toNat hstatus).trans (controlStatus_code_toNat st), hzero, rfl⟩

/-- Settles O52: the tables of codes by evaluation, each frame by the fields of its header word. -/
theorem framesCarryTheirFields : Obligations.FramesCarryTheirFields :=
  ⟨rfl, rfl, rfl, requestFrame_reads, releaseFrame_reads, replyFrame_reads, noticeFrame_reads, fun _ => creditFrame_reads,
    controlReplyFrame_reads, rfl, rfl⟩

end Sys2Proof.Machine
end

section
/-! A trunk reset (R162, R164): what it leaves at the Trunk Port and the arbiter, its count, and the share of each block (R19, R40,
R75, R102, R126, R145, R155, R184), whichever of the three causes brings it. -/

namespace Sys2Proof.Machine

open Sys2Proof.Safety

/-! ## The causes -/

/-- The state in which the trunk reset of cause `c` is taken: a lost signal is gone before it (R162). -/
def State.atTrunkReset (c : Instr) (s : State) : State :=
  { s with trunk := { s.trunk with partner := if c = .trunkPartnerLost then false else s.trunk.partner } }

theorem atTrunkReset_frame (c : Instr) (s : State) : SameBut [.trunk] s (s.atTrunkReset c) := by
  simp [sameBut_iff, State.atTrunkReset]

/-- Each cause resets an UP trunk, a check failure with the reset sequence (R161, R162). -/
theorem exec_trunkResetCause_eq {c : Instr} {s : State} (hc : c ∈ trunkResetCauses) (hup : s.trunk.state = .up) :
    exec c s = .next ((s.atTrunkReset c).trunkReset (decide (c = .trunkCheckFailure))) := by
  simp only [trunkResetCauses, List.mem_cons, List.not_mem_nil, or_false] at hc
  rcases hc with rfl | rfl | rfl
  · exact congrArg _ (if_pos hup)
  · exact congrArg _ (if_pos hup)
  · simp only [exec, execTrunkPartnerLost, hup]
    rfl

/-! ## The port and the count -/

theorem trunkReset_trunk (s : State) (sends : Bool) : (s.trunkReset sends).trunk =
    { state := if s.trunk.partner = true then .training else .down, restored := true, partner := s.trunk.partner, tx := none,
      pointer := .control, resetSeqs := if sends = true then s.trunk.resetSeqs + 1 else s.trunk.resetSeqs } := by
  rw [State.trunkReset, State.countTrunkReset_trunk]

theorem countTrunkReset_trunkResets (s : State) : s.countTrunkReset.counters.trunkResets = bump s.counters.trunkResets := by
  obtain ⟨k, hk⟩ := signalIf_counters (saturates s.counters.trunkResets)
    { s with counters := { s.counters with trunkResets := bump s.counters.trunkResets } }
  rw [State.countTrunkReset, hk]

theorem trunkReset_trunkResets (s : State) (sends : Bool) :
    (s.trunkReset sends).counters.trunkResets = bump s.counters.trunkResets := countTrunkReset_trunkResets _

/-- Settles O8: the port as the reset leaves it, from the signal that its cause leaves. -/
theorem trunkResetAtThePort : Obligations.TrunkResetAtThePort := by
  intro c s hc hup
  refine ⟨_, exec_trunkResetCause_eq hc hup, ?_, trunkReset_trunkResets _ _,
    sameBut_trans (atTrunkReset_frame c s) (trunkReset_frame _ _) (by decide) (by decide)⟩
  rw [trunkReset_trunk]
  by_cases hlost : c = .trunkPartnerLost
  · simp [State.atTrunkReset, hlost]
  · cases hsignal : s.trunk.partner <;> simp [State.atTrunkReset, hlost, hsignal]

/-! ## The share of each record -/

theorem window_trunkReset_eq (w : Window) :
    w.trunkReset = if w.state = .retiring then Window.blank else { w with inFlight := 0 } := by
  unfold Window.trunkReset
  split <;> simp [*]

theorem branch_trunkReset_eq (br : Branch) : br.trunkReset = { br with
    queue := []
    state := if br.state = .draining then .fenced else br.state
    drainLend := if br.state = .draining then false else br.drainLend } := by
  unfold Branch.trunkReset
  split <;> simp [*]

/-- A raise reaches its own line, and I6 when its count saturates (R106, R192). -/
theorem raise_line_other {s : State} {n m : LineId} (hm : m ≠ n) (hsix : m ≠ internalLine 6) :
    (s.raise n).lines[m] = s.lines[m] := by
  have hset : (s.setLine n s.lines[n].raise).lines[m] = s.lines[m] := setLine_other s n _ m hm
  by_cases hidle : s.lines[n].state = .idle
  · rw [raise_of_idle hidle, hset]
  · rw [raise_of_not_idle hidle, countCoalesced_lines]
    split
    · exact (setLine_other _ (internalLine 6) _ m hsix).trans hset
    · exact hset

/-- A counter that saturates reaches no line but I6 (R192). -/
theorem signalIf_line_other {m : LineId} (hsix : m ≠ internalLine 6) (x : Bool) (s : State) :
    (s.signalIf x).lines[m] = s.lines[m] := by
  unfold State.signalIf
  split
  · exact raise_line_other hsix hsix
  · rfl

theorem trunkReset_lines {n : LineId} (hsix : n ≠ internalLine 6) (s : State) (sends : Bool) :
    (s.trunkReset sends).lines[n] = s.lines[n].trunkReset := by
  unfold State.trunkReset State.countTrunkReset
  rw [signalIf_line_other hsix]
  simp

/-- Settles O9: the lists are emptied, and each record takes its own share. -/
theorem trunkResetShares : Obligations.TrunkResetShares := by
  intro c s hc hup
  obtain ⟨hintake, hacc, hreplies, hctl, hpcl, hdeliveries, -⟩ :=
    trunkReset_quiet (decide (c = .trunkCheckFailure)) (s.atTrunkReset c)
  refine ⟨_, exec_trunkResetCause_eq hc hup, hintake, hacc, hreplies, hctl, hpcl, hdeliveries, fun e => ?entries,
    fun w => ?windows, fun b => ?branches, fun n hsix => ?lines⟩
  case entries =>
    rw [trunkReset_entries]
    show s.entries[e].trunkReset s.timeBase s.timing = _
    cases s.entries[e] with
    | answered h o => cases o <;> rfl
    | _ => rfl
  case windows =>
    rw [trunkReset_windows, window_trunkReset_eq]
    rfl
  case branches =>
    rw [trunkReset_branches, restall_of_not_stalled _ _ _ (stalled_eq_false_of_queue (branch_trunkReset_queue _)),
      branch_trunkReset_eq]
    rfl
  case lines =>
    rw [trunkReset_lines hsix, line_trunkReset_eq]
    rfl

end Sys2Proof.Machine
end

section
/-! The trunk link out of service and coming UP (R157, R162, R163), a frame that has gone (R150, R157), and what becomes of a frame
that no block takes: a CREDIT on the trunk, a frame of another kind, a frame of a bad size (R158, R166, R167). -/

namespace Sys2Proof.Machine

open Sys2Proof.Safety

/-! ## A frame has gone -/

/-- The transmitter is not among the conditions of the stall timer (R71). -/
theorem timerOk_txFree {br : Branch} (h : TimerOk br) : TimerOk { br with tx := none } := h

/-- Settles O14: the trunk's transmitter by the command's definition, a branch's by a write of its port. -/
theorem frameSentFreesTransmitter : Obligations.FrameSentFreesTransmitter :=
  ⟨fun _ => ⟨_, rfl, rfl, by simp [sameBut_iff]⟩, fun _ _ htimer => setBranch_next (timerOk_txFree htimer)⟩

/-! ## Out of service -/

theorem exec_trunkPartnerAppears_starts {s : State} (hdown : s.trunk.state = .down) (hporst : s.porst = false) :
    exec .trunkPartnerAppears s = .next { s with trunk := { s.trunk with partner := true, state := .training } } := by
  show execTrunkPartnerAppears s = _
  rw [execTrunkPartnerAppears, if_pos ⟨hdown, hporst⟩]

/-- The signal is noted and training does not start: it is under way, or the part is held in reset (R157). -/
theorem exec_trunkPartnerAppears_noted {s : State} (h : s.trunk.state ≠ .down ∨ s.porst = true) :
    exec .trunkPartnerAppears s = .next { s with trunk := { s.trunk with partner := true } } := by
  have hstay : ¬(s.trunk.state = .down ∧ s.porst = false) := fun ⟨hdown, hporst⟩ =>
    h.elim (fun hup => hup hdown) fun hheld => Bool.noConfusion (hporst.symm.trans hheld)
  show execTrunkPartnerAppears s = _
  rw [execTrunkPartnerAppears, if_neg hstay]

section
variable {s : State} (h : s.trunk.state = .training)
include h

theorem not_up_of_training : s.trunk.state ≠ .up := by
  rw [h]
  decide

/-- A signal lost in training takes the trunk DOWN without a trunk reset (R162). -/
theorem exec_trunkPartnerLost_training : exec .trunkPartnerLost s =
    .next { s with trunk := { s.trunk with partner := false, state := .down } } := by
  simp only [exec, execTrunkPartnerLost, h]

end

section
variable {s : State} (h : s.trunk.state ≠ .up)
include h

theorem trunkCheckFails_out : s.trunkCheckFails = s := if_neg h

theorem exec_trunkResetSequenceReceived_out : exec .trunkResetSequenceReceived s = .next s := congrArg _ (if_neg h)

theorem arrive_out (x : IntakeFrame) : s.arrive x = s := if_pos h

theorem takeAck_out (v : BitVec 8) : s.takeAck v = s := if_pos h

theorem trunkUnexpected_out (k : BitVec 4) : s.trunkUnexpected k = s := if_neg h

/-- Out of UP no frame is delivered and none is recorded (R162, R167). -/
theorem trunkFrames_out {f : Frame} (hsize : f.sizeOk = true) :
    (f.isOneOf [1, 7] = true → exec (.intakeArrival f) s = .next s) ∧
    (f.isOneOf [4] = true → exec (.noticeAck f) s = .next s) ∧
    (f.isNoneOf Frame.trunkKinds = true → exec (.trunkUnexpectedFrame f) s = .next s) := by
  have htaken {isRow : Bool} {good : State → State} (hgood : good s = s) (hrow : isRow = true) :
      takeFrame isRow f State.trunkCheckFails good s = .next s := by rw [takeFrame_good hrow hsize, hgood]
  exact ⟨htaken (arrive_out h _), htaken (takeAck_out h _), htaken (trunkUnexpected_out h _)⟩

end

/-- Settles O6: the signal that appears, by whether it starts training; the link events in training; the frames out of UP. -/
theorem trunkLinkOutOfService : Obligations.TrunkLinkOutOfService := by
  intro s
  refine ⟨fun hdown hporst => ?_, fun hnoted => ?_, fun htraining => ?_, fun hout f hsize => trunkFrames_out hout hsize⟩
  · exact ⟨_, exec_trunkPartnerAppears_starts hdown hporst, rfl, by simp [sameBut_iff]⟩
  · exact ⟨_, exec_trunkPartnerAppears_noted hnoted, rfl, by simp [sameBut_iff]⟩
  · have hout := not_up_of_training htraining
    exact ⟨congrArg _ (trunkCheckFails_out hout), exec_trunkResetSequenceReceived_out hout,
      _, exec_trunkPartnerLost_training htraining, rfl, by simp [sameBut_iff]⟩

/-! ## Training completes -/

/-- The trunk UP with its sixteen credits, before the raise of I7 (R163). -/
def State.granted (s : State) : State :=
  { s with trunk := { s.trunk with state := .up, restored := false }, acc := 16 }

/-- I7 is raised if the restored mark was set (R163). -/
theorem trunkUp_eq (s : State) : s.trunkUp = if s.trunk.restored = true then s.granted.raiseInternal 7 else s.granted := rfl

theorem granted_frame (s : State) : SameBut [.trunk, .acc] s s.granted := by
  simp [sameBut_iff, State.granted]

/-- Coming UP writes what the grant writes, and the lines and counters by the raise. -/
theorem trunkUp_frame (s : State) : SameBut [.lines, .counters] s.granted s.trunkUp := by
  rw [trunkUp_eq]
  split <;> simp [sameBut_iff]

theorem trunkUp_trunk (s : State) : s.trunkUp.trunk = { s.trunk with state := .up, restored := false } :=
  (trunkUp_frame s).1 .trunk (by decide)

theorem trunkUp_acc (s : State) : s.trunkUp.acc = 16 := (trunkUp_frame s).1 .acc (by decide)

theorem trunkUp_sameBut (s : State) : SameBut [.trunk, .acc, .lines, .counters] s s.trunkUp :=
  sameBut_trans (granted_frame s) (trunkUp_frame s) (by decide) (by decide)

/-- The grant is the first frame that the arbiter chooses (R155, R163). -/
theorem trunkUp_choice {s : State} (htx : s.trunk.tx = none) (hctl : s.ctlQ = []) : s.trunkUp.trunkChoice = some .credit := by
  have hq : s.trunkUp.ctlQ = [] := ((trunkUp_sameBut s).1 .ctlQ (by decide)).trans hctl
  refine trunkChoice_of_credit ?_ ?_ (fun r hr => ?_) ?_
  · rw [trunkUp_trunk]
  · rw [trunkUp_trunk]
    exact htx
  · rw [hq] at hr
    exact absurd hr List.not_mem_nil
  · rw [trunkUp_acc]
    decide

/-- On an UP trunk with an empty Delivery List a line that waits is selected (R111). -/
theorem exec_selection_taken {s : State} (hup : s.trunk.state = .up) (hdeliveries : s.deliveries = [])
    (hwaits : ∃ n : LineId, s.lines[n].state = .pending) : ∃ u, exec .selection s = .next u := by
  obtain ⟨n, hn⟩ := hwaits
  obtain ⟨m, hm⟩ := Option.ne_none_iff_exists'.mp (chosenLine_ne_none s n hn)
  exact ⟨_, exec_selection hup (by rw [hdeliveries]; decide) hm⟩

/-- Settles O7: the raise of I7 by the restored mark, then the grant as the next choice and the selection. -/
theorem trunkTrainingCompletes : Obligations.TrunkTrainingCompletes := by
  intro s htraining
  refine ⟨s.trunkUp, congrArg _ (if_pos htraining), trunkUp_trunk s, trunkUp_acc s, fun hmark => ?_, fun hmark => ?_,
    trunkUp_sameBut s, trunkUp_choice, fun hdeliveries => exec_selection_taken ?_ ?_⟩
  · rw [trunkUp_eq, if_pos hmark]
    exact attention_raiseInternal 7 ⟨rfl, rfl, rfl⟩
  · rw [trunkUp_eq, if_neg (Bool.eq_false_iff.mp hmark)]
    exact ⟨rfl, rfl, rfl⟩
  · rw [trunkUp_trunk]
  · exact ((trunkUp_sameBut s).1 .deliveries (by decide)).trans hdeliveries

/-! ## Frames that no block takes -/

/-- A frame of a kind that the port does not take is recorded, and nothing else happens (R167, R191). -/
theorem unexpectedFrame_next {s u : State} {f : FaultRecord} (h : u = s.recordFault f) :
    ∃ t, (.next u : Result) = .next t ∧ AttentionOf (s.recordFault f) t ∧ SameBut [.faults, .lines, .counters] s t :=
  ⟨_, rfl, h ▸ ⟨rfl, rfl, rfl⟩, h ▸ recordFault_frame f s⟩

/-- Settles O12: each frame is taken as good, and recorded by a link in service alone. -/
theorem creditAndUnexpectedFrames : Obligations.CreditAndUnexpectedFrames := by
  refine ⟨fun f s hrow hsize => takeFrame_good (good := fun s => s) hrow hsize, fun f s hrow hsize => ?_, fun b f s hrow hsize => ?_⟩
  · have hexec : exec (.trunkUnexpectedFrame f) s = .next (s.trunkUnexpected f.kind) := takeFrame_good hrow hsize
    rw [hexec]
    exact ⟨fun hup => unexpectedFrame_next (if_pos hup),
      fun htraining => congrArg _ (trunkUnexpected_out (not_up_of_training htraining) _)⟩
  · have hexec : exec (.branchUnexpectedFrame b f) s = .next (s.branchUnexpected b f.kind) := takeFrame_good hrow hsize
    rw [hexec]
    exact ⟨fun hin => unexpectedFrame_next (if_pos hin),
      fun hout => congrArg _ (branchUnexpected_out ((outOfService_iff _).mpr (.inr hout)) _)⟩

/-- A frame of a bad size on the trunk is a check failure of the trunk, whatever its owner would make of it (R158). -/
theorem trunkFrame_badSize {isRow : Bool} {f : Frame} {s : State} (good : State → State) (hsize : f.sizeOk = false)
    (hrow : isRow = true) : takeFrame isRow f State.trunkCheckFails good s = exec .trunkCheckFailure s :=
  takeFrame_bad hrow hsize

theorem branchFrame_badSize {isRow : Bool} {f : Frame} {s : State} (b : BranchId) (good : State → State)
    (hsize : f.sizeOk = false) (hrow : isRow = true) :
    takeFrame isRow f (State.branchCheckFails b) good s = exec (.branchCheckFailure b) s := takeFrame_bad hrow hsize

/-- Settles O13: a bad size sends each command to the check failure of its link. -/
theorem badSizeIsCheckFailure : Obligations.BadSizeIsCheckFailure := fun f _ hsize =>
  ⟨trunkFrame_badSize (.arrive (.ofFrame f)) hsize, trunkFrame_badSize (.takeAck f.lineOrVector) hsize,
    trunkFrame_badSize (fun s => s) hsize, trunkFrame_badSize (.trunkUnexpected f.kind) hsize, fun b =>
    ⟨branchFrame_badSize b (.takeReply b f.replyTag (.ofCode f.replyStatus) f.replyData) hsize,
      branchFrame_badSize b (.takeCredit b f.creditCount) hsize, branchFrame_badSize b (.takeNotice b f.lineOrVector) hsize,
      branchFrame_badSize b (.takeWithdraw b) hsize, branchFrame_badSize b (.takeReturn b) hsize,
      branchFrame_badSize b (.branchUnexpected b f.kind) hsize⟩⟩

end Sys2Proof.Machine
end

section
/-! The Pending Control List in agreement with the windows and the branches (R17, R93, R99, R181 to R183): what an event may do to it
is to end some operations, or to append one. -/

namespace Sys2Proof.Machine

open Sys2Proof.Safety

theorem pendingOk_readsOnly : ReadsOnly [.windows, .branches, .pcl] PendingOk := by
  intro s t h hs
  have hwindows : t.windows = s.windows := h .windows (by decide)
  have hbranches : t.branches = s.branches := h .branches (by decide)
  have hpcl : t.pcl = s.pcl := h .pcl (by decide)
  unfold PendingOk at hs ⊢
  rwa [hwindows, hbranches, hpcl]

theorem pendingOk_of_frame {ks : List Block} {s t : State} (hs : PendingOk s) (h : SameBut ks s t)
    (hk : ∀ k ∈ [Block.windows, .branches, .pcl], k ∉ ks) : PendingOk t :=
  pendingOk_readsOnly.keep h hk hs

theorem retire_mem_iff {s : State} (hs : PendingOk s) (w : WindowId) :
    .retire w ∈ s.pcl.map PendingControl.op ↔ s.windows[w].state = .retiring := hs.2.1 w

theorem fence_mem_iff {s : State} (hs : PendingOk s) (b : BranchId) :
    .fence b ∈ s.pcl.map PendingControl.op ↔ s.branches[b].state = .draining := hs.2.2.1 b

theorem resetting_of_reset_mem {s : State} (hs : PendingOk s) {b : BranchId} (h : .reset b ∈ s.pcl.map PendingControl.op) :
    s.branches[b].state = .resetting := hs.2.2.2 b h

/-! ## Operations that end -/

/-- The operations that a completion leaves in the list are those to which it gives no status (R183). -/
theorem mem_complete_ops (s : State) (f : LongOp → Option ControlStatus) (op : LongOp) :
    op ∈ (s.complete f).pcl.map PendingControl.op ↔ op ∈ s.pcl.map PendingControl.op ∧ f op = none := by
  rw [complete_pcl]
  simp only [List.mem_map, List.mem_filter, decide_eq_true_eq]
  constructor
  · rintro ⟨r, ⟨hr, hf⟩, rfl⟩
    exact ⟨⟨r, hr, rfl⟩, hf⟩
  · rintro ⟨⟨r, hr, rfl⟩, hf⟩
    exact ⟨r, ⟨hr, hf⟩, rfl⟩

/-- From `s` to `t` the operations to which `f` gives a status end: they leave the list, and the windows and branches that waited for
them wait no longer. All others wait on. -/
structure Ends (f : LongOp → Option ControlStatus) (s t : State) : Prop where
  list : t.pcl = (s.complete f).pcl
  retiring : ∀ w : WindowId, t.windows[w].state = .retiring ↔ s.windows[w].state = .retiring ∧ f (.retire w) = none
  draining : ∀ b : BranchId, t.branches[b].state = .draining ↔ s.branches[b].state = .draining ∧ f (.fence b) = none
  resetting : ∀ b : BranchId, s.branches[b].state = .resetting → f (.reset b) = none → t.branches[b].state = .resetting

theorem Ends.pendingOk {f : LongOp → Option ControlStatus} {s t : State} (h : Ends f s t) (hs : PendingOk s) : PendingOk t := by
  obtain ⟨hnodup, hretire, hfence, hreset⟩ := hs
  unfold PendingOk
  simp only [h.list, mem_complete_ops]
  refine ⟨?_, fun w => ?_, fun b => ?_, fun b hb => h.resetting b (hreset b hb.1) hb.2⟩
  · rw [complete_pcl]
    exact hnodup.sublist (List.filter_sublist.map _)
  · rw [hretire, h.retiring]
  · rw [hfence, h.draining]

/-- Nothing ends. -/
theorem pendingOk_of_same {s t : State} (hs : PendingOk s) (hp : t.pcl = s.pcl)
    (hw : ∀ w : WindowId, t.windows[w].state = .retiring ↔ s.windows[w].state = .retiring)
    (hd : ∀ b : BranchId, t.branches[b].state = .draining ↔ s.branches[b].state = .draining)
    (hr : ∀ b : BranchId, s.branches[b].state = .resetting → t.branches[b].state = .resetting) : PendingOk t :=
  Ends.pendingOk (f := fun _ => none)
    ⟨by rw [complete_none s fun _ => rfl, hp], fun w => by rw [hw, and_iff_left rfl], fun b => by rw [hd, and_iff_left rfl],
      fun b hb _ => hr b hb⟩ hs

/-- Everything has ended. -/
theorem pendingOk_of_empty {s : State} (hp : s.pcl = []) (hw : ∀ w : WindowId, s.windows[w].state ≠ .retiring)
    (hd : ∀ b : BranchId, s.branches[b].state ≠ .draining) : PendingOk s := by
  unfold PendingOk
  rw [hp]
  exact ⟨List.nodup_nil, fun w => iff_of_false List.not_mem_nil (hw w), fun b => iff_of_false List.not_mem_nil (hd b),
    fun _ h => absurd h List.not_mem_nil⟩

/-- An operation is appended, and its window or branch waits for it (R181). -/
theorem pendingOk_of_append {s t : State} {r : PendingControl} (hs : PendingOk s) (hp : t.pcl = s.pcl ++ [r])
    (hnew : r.op ∉ s.pcl.map PendingControl.op)
    (hw : ∀ w : WindowId, t.windows[w].state = .retiring ↔ s.windows[w].state = .retiring ∨ .retire w = r.op)
    (hd : ∀ b : BranchId, t.branches[b].state = .draining ↔ s.branches[b].state = .draining ∨ .fence b = r.op)
    (hr : ∀ b : BranchId, s.branches[b].state = .resetting ∨ .reset b = r.op → t.branches[b].state = .resetting) :
    PendingOk t := by
  obtain ⟨hnodup, hretire, hfence, hreset⟩ := hs
  unfold PendingOk
  simp only [hp, List.map_append, List.map_cons, List.map_nil, List.mem_append, List.mem_singleton]
  refine ⟨?_, fun w => ?_, fun b => ?_, fun b hb => hr b (hb.imp_left (hreset b))⟩
  · exact hnodup.append (List.nodup_singleton _) (List.disjoint_singleton.mpr hnew)
  · rw [hretire, hw]
  · rw [hfence, hd]

/-! ## One window or one port written -/

theorem forall_setWindow {s : State} {w : WindowId} {x : Window} (P : WindowId → Window → Prop) (hself : P w x)
    (hother : ∀ v : WindowId, v ≠ w → P v s.windows[v]) (v : WindowId) : P v (s.setWindow w x).windows[v] := by
  by_cases hv : v = w
  · rw [hv, setWindow_self]
    exact hself
  · rw [setWindow_other s w x v hv]
    exact hother v hv

theorem setWindow_pendingOk {s : State} {w : WindowId} {x : Window} (hs : PendingOk s)
    (hx : x.state = .retiring ↔ s.windows[w].state = .retiring) : PendingOk (s.setWindow w x) :=
  pendingOk_of_same hs rfl
    (forall_setWindow (fun v y => y.state = .retiring ↔ s.windows[v].state = .retiring) hx fun _ _ => Iff.rfl)
    (fun _ => Iff.rfl) fun _ => id

/-- A port is written, and the operations of its branch to which `f` gives a status end. -/
theorem setBranch_ends {s : State} {b : BranchId} {br : Branch} {f : LongOp → Option ControlStatus}
    (hretire : ∀ w : WindowId, f (.retire w) = none)
    (hother : ∀ c : BranchId, c ≠ b → f (.fence c) = none)
    (hd : br.state = .draining ↔ s.branches[b].state = .draining ∧ f (.fence b) = none)
    (hr : s.branches[b].state = .resetting → f (.reset b) = none → br.state = .resetting) :
    Ends f s ((s.setBranch b br).complete f) where
  list := rfl
  retiring w := (and_iff_left (hretire w)).symm
  draining := forall_setBranch (fun c x => x.state = .draining ↔ s.branches[c].state = .draining ∧ f (.fence c) = none) hd
    fun c hc => (and_iff_left (hother c hc)).symm
  resetting := forall_setBranch (fun c x => s.branches[c].state = .resetting → f (.reset c) = none → x.state = .resetting) hr
    fun _ _ h _ => h

theorem setBranch_pendingOk {s : State} {b : BranchId} {br : Branch} (hs : PendingOk s)
    (hd : br.state = .draining ↔ s.branches[b].state = .draining)
    (hr : s.branches[b].state = .resetting → br.state = .resetting) : PendingOk (s.setBranch b br) := by
  have hends : Ends (fun _ => none) s ((s.setBranch b br).complete fun _ => none) :=
    setBranch_ends (fun _ => rfl) (fun _ _ => rfl) (hd.trans (and_iff_left rfl).symm) fun h _ => hr h
  rw [complete_none _ fun _ => rfl] at hends
  exact hends.pendingOk hs

/-- A port with no operation pending is written in a state that waits for no fence. -/
theorem setBranch_idle_pendingOk {s : State} {b : BranchId} {br : Branch} (hs : PendingOk s)
    (hdraining : s.branches[b].state ≠ .draining) (hresetting : s.branches[b].state ≠ .resetting)
    (hnew : br.state ≠ .draining) : PendingOk (s.setBranch b br) :=
  setBranch_pendingOk hs (iff_of_false hnew hdraining) fun h => absurd h hresetting

/-! ## The shared operations -/

theorem recordFault_pendingOk {s : State} (f : FaultRecord) (hs : PendingOk s) : PendingOk (s.recordFault f) :=
  pendingOk_of_frame hs (recordFault_frame f s) (by decide)

theorem raiseInternal_pendingOk {s : State} (k : Fin 8) (hs : PendingOk s) : PendingOk (s.raiseInternal k) :=
  pendingOk_of_frame hs (raise_frame (internalLine k) s) (by decide)

theorem answerNow_pendingOk {s : State} (c : Control) (st : ControlStatus) {ws : List Word} (hs : PendingOk s) :
    PendingOk (s.answerNow c st ws) :=
  pendingOk_of_frame hs (answerNow_frame s c st ws) (by decide)

/-- Settling ends the retires of the windows and the fences of the branches that have drained (R17, R93). -/
theorem settle_ends (s : State) (ws : WindowId → Bool) (bs : BranchId → Bool) :
    Ends (ended (fun w => ws w && s.windows[w].drained) fun b => if bs b && s.drained b then some .done else none) s
      (s.settle ws bs) where
  list := (settle_completes (fun _ => rfl) (fun _ => rfl) fun _ => rfl).1
  retiring w := by
    rw [settle_windows]
    show _ ↔ _ ∧ (if ws w && s.windows[w].drained then some ControlStatus.done else none) = none
    cases ws w && s.windows[w].drained <;> simp [Window.blank]
  draining b := by
    rw [settle_branches]
    show _ ↔ _ ∧ (if bs b && s.drained b then some ControlStatus.done else none) = none
    cases bs b && s.drained b <;> simp [endDrain_not_draining]
  resetting b hb _ := by
    have hkept : s.drained b = false :=
      Bool.eq_false_iff.mpr fun h => BranchState.noConfusion (hb.symm.trans ((drained_iff s b).mp h).1)
    rwa [settle_branches, hkept, Bool.and_false, if_neg Bool.false_ne_true]

theorem settle_pendingOk {s : State} (ws : WindowId → Bool) (bs : BranchId → Bool) (hs : PendingOk s) :
    PendingOk (s.settle ws bs) :=
  (settle_ends s ws bs).pendingOk hs

/-- The counts of the windows are no matter of the list. -/
theorem uncountOne_pendingOk {s : State} (w : WindowId) (hs : PendingOk s) : PendingOk (s.uncountOne w) :=
  pendingOk_of_same hs (by simp) (fun v => by rw [State.uncountOne, uncount_windows]) (fun b => by simp) fun b => by simp

theorem answerEntry_pendingOk {s : State} (e : EntryId) (h : Held) (o : Bool) (st : ReplyStatus) (ws : List Word)
    (hs : PendingOk s) : PendingOk (s.answerEntry e h o st ws) :=
  settle_pendingOk _ _ (uncountOne_pendingOk _
    (pendingOk_of_frame (ks := [.entries, .replyQ]) hs (by simp [sameBut_iff]) (by decide)))

/-- CLEAR-PATH empties counts and queues and settles (R195). -/
theorem clearPath_pendingOk {s : State} (hs : PendingOk s) : PendingOk s.clearPath :=
  settle_pendingOk _ _ (pendingOk_of_same hs rfl (fun w => by simp) (fun b => by simp) fun b => by simp)

/-! ## Losses -/

/-- A loss ends the retires that it drains and a fence of its branch (R84). -/
theorem lose_ends {s : State} {b : BranchId} {st : BranchState} (hst : st ≠ .draining)
    (hresetting : s.branches[b].state = .resetting → st = .resetting) : Ends (lossCompletes s b) s (s.lose b st) where
  list := (lose_completes s b st).1
  retiring w := by
    rw [lose_windows]
    cases h : retiredByLoss s b w <;> simp [lossCompletes, h, Window.blank]
  draining c := by
    by_cases hc : c = b
    · subst hc
      rw [lose_branch_self]
      simp [lossCompletes, hst]
    · rw [lose_branch_other s b st c hc]
      simp [lossCompletes, hc]
  resetting c hc _ := by
    by_cases hcb : c = b
    · subst hcb
      rw [lose_branch_self]
      exact hresetting hc
    · rwa [lose_branch_other s b st c hcb]

theorem outOfService_not_draining (br : Branch) : br.outOfService ≠ .draining := by
  unfold Branch.outOfService
  split <;> decide

/-- A branch that is not RESETTING has no reset pending, so a loss ends all that waits on it (R84). -/
theorem lossBy_pendingOk {s : State} {b : BranchId} (cause : LossCause) (hs : PendingOk s)
    (hb : s.branches[b].state ≠ .resetting) : PendingOk (s.lossBy b cause) :=
  recordFault_pendingOk _ (raiseInternal_pendingOk 1
    ((lose_ends (outOfService_not_draining _) fun h => absurd h hb).pendingOk hs))

theorem sendReset_lossBy_pendingOk {s : State} {b : BranchId} (cause : LossCause) (hs : PendingOk s)
    (hin : s.branches[b].state.inService = true) : PendingOk ((s.setBranch b s.branches[b].sendReset).lossBy b cause) :=
  lossBy_pendingOk cause (setBranch_pendingOk hs Iff.rfl id)
    (by rw [setBranch_self]; exact not_resetting_of_inService hin)

theorem branchCheckFails_pendingOk {s : State} (b : BranchId) (hs : PendingOk s) : PendingOk (s.branchCheckFails b) := by
  unfold State.branchCheckFails
  split
  case isTrue hin => exact sendReset_lossBy_pendingOk .check hs hin
  case isFalse => exact hs

/-- A trunk reset empties the list and leaves nothing that waits for it (R19, R75, R164). -/
theorem trunkReset_pendingOk (sends : Bool) (s : State) : PendingOk (s.trunkReset sends) :=
  pendingOk_of_empty (by simp [State.trunkReset])
    (fun w => by rw [trunkReset_windows]; exact window_trunkReset_not_retiring _)
    fun b => by rw [trunkReset_branches]; exact branch_trunkReset_not_draining _

theorem trunkCheckFails_pendingOk {s : State} (hs : PendingOk s) : PendingOk s.trunkCheckFails := by
  unfold State.trunkCheckFails
  split
  · exact trunkReset_pendingOk true s
  · exact hs

theorem powerOn_pendingOk (p : Bool) (ps : Vector Bool 6) (q : List Instr) : PendingOk (State.powerOn p ps q) :=
  pendingOk_of_empty rfl (fun w => by rw [powerOn_windows]; decide)
    fun b => by rw [powerOn_branches]; exact fun h => BranchState.noConfusion h

end Sys2Proof.Machine
end

section
/-! Every command keeps the Pending Control List in agreement with the windows and the branches. -/

namespace Sys2Proof.Machine

open Sys2Proof.Safety

/-! ## Windows and branches of the Control Unit -/

theorem loadWindow_pendingOk {s : State} (c : Control) (o : LoadWindowOperands) (hs : PendingOk s) :
    PendingOk (s.loadWindow c o) := by
  unfold State.loadWindow
  split
  · exact answerNow_pendingOk c .inUse hs
  case isFalse hempty =>
    split
    · exact answerNow_pendingOk c .overlap hs
    · have hstate : s.windows[o.index].state = .empty := not_not.mp hempty
      exact answerNow_pendingOk c .done (setWindow_pendingOk hs
        (iff_of_false (fun h => WindowState.noConfusion h) (by rw [hstate]; decide)))

/-- A LIVE window has no retire in the list, so a retire may be appended as it becomes RETIRING (R15). -/
theorem retireWindow_pendingOk {s : State} (c : Control) (w : WindowId) (hs : PendingOk s) :
    PendingOk (s.retireWindow c w) := by
  cases hstate : s.windows[w].state with
  | empty =>
    rw [retireWindow_empty c hstate]
    exact answerNow_pendingOk c .wrongState hs
  | retiring =>
    rw [retireWindow_retiring c hstate]
    exact answerNow_pendingOk c .already hs
  | live =>
    have hnot : s.windows[w].state ≠ .retiring := by rw [hstate]; decide
    rw [retireWindow_live c hstate]
    split
    · exact answerNow_pendingOk c .done (setWindow_pendingOk hs
        (iff_of_false (fun h => WindowState.noConfusion h) hnot))
    · split
      · exact answerNow_pendingOk c .busy hs
      · refine pendingOk_of_append hs rfl (fun h => hnot ((retire_mem_iff hs w).mp h)) ?_ (fun b => by simp) fun b => by simp
        refine forall_setWindow (fun v y => y.state = .retiring ↔ s.windows[v].state = .retiring ∨ LongOp.retire v = .retire w)
          (by simp) fun v hv => by simp [hv]

/-- An ACTIVE branch has no fence in the list, so a fence may be appended as it begins to drain (R90, R91). -/
theorem beginDrain_pendingOk {s : State} {b : BranchId} (c : Control) (lend : Bool) (hs : PendingOk s)
    (hactive : s.branches[b].state = .active) :
    PendingOk ((s.setBranch b { s.branches[b] with state := .draining, drainLend := lend }).accept c (.fence b)) := by
  have hnot : s.branches[b].state ≠ .draining := by rw [hactive]; decide
  refine pendingOk_of_append hs rfl (fun h => hnot ((fence_mem_iff hs b).mp h)) (fun w => by simp) ?_ ?_
  · exact forall_setBranch (fun d x => x.state = .draining ↔ s.branches[d].state = .draining ∨ LongOp.fence d = .fence b)
      (by simp) fun d hd => by simp [hd]
  · exact forall_setBranch (fun d x => s.branches[d].state = .resetting ∨ LongOp.reset d = .fence b → x.state = .resetting)
      (fun h => h.elim (fun h => BranchState.noConfusion (hactive.symm.trans h)) fun h => LongOp.noConfusion h)
      fun d _ => by simp

theorem fenceBranch_pendingOk {s : State} (c : Control) (b : BranchId) (lend : Bool) (hs : PendingOk s) :
    PendingOk (s.fenceBranch c b lend) := by
  have hfence {st : BranchState} (hst : s.branches[b].state = st) (hd : st ≠ .draining) (hr : st ≠ .resetting) :
      PendingOk ((s.setBranch b (s.branches[b].enterFence lend)).answerNow c .done []) :=
    answerNow_pendingOk c .done
      (setBranch_idle_pendingOk hs (hst ▸ hd) (hst ▸ hr) (enterFence_not_draining lend _))
  unfold State.fenceBranch
  dsimp only
  split
  case h_5 hactive =>
    split
    · exact hfence hactive (by decide) (by decide)
    · split
      · exact answerNow_pendingOk c .busy hs
      · exact beginDrain_pendingOk c lend hs hactive
  case h_6 hfenced => exact hfence hfenced (by decide) (by decide)
  all_goals exact answerNow_pendingOk c _ hs

/-- A fence aborted leaves its branch out of DRAINING (R94, R96). -/
theorem abortFence_ends {s : State} {b : BranchId} {br : Branch} (hd : br.state ≠ .draining)
    (hr : s.branches[b].state = .resetting → br.state = .resetting) :
    Ends (abortFence b) s ((s.setBranch b br).complete (abortFence b)) :=
  setBranch_ends (fun _ => rfl) (fun c hc => if_neg hc) (iff_of_false hd fun h => by simp [abortFence] at h) fun h _ => hr h

theorem unfenceBranch_pendingOk {s : State} (c : Control) (b : BranchId) (hs : PendingOk s) :
    PendingOk (s.unfenceBranch c b) := by
  have hidle {br : Branch} {st : BranchState} (hst : s.branches[b].state = st) (hd : st ≠ .draining) (hr : st ≠ .resetting)
      (hnew : br.state = .active) : PendingOk ((s.setBranch b br).answerNow c .done []) :=
    answerNow_pendingOk c .done (setBranch_idle_pendingOk hs (hst ▸ hd) (hst ▸ hr) (by rw [hnew]; decide))
  unfold State.unfenceBranch
  dsimp only
  split
  case h_5 hdraining =>
    refine answerNow_pendingOk c .done ((abortFence_ends (fun h => BranchState.noConfusion h) fun h => ?_).pendingOk hs)
    exact BranchState.noConfusion (hdraining.symm.trans h)
  case h_6 hfenced => exact hidle hfenced (by decide) (by decide) rfl
  case h_7 hlent => exact hidle hlent (by decide) (by decide) rfl
  all_goals exact answerNow_pendingOk c _ hs

/-! ## RESET-BRANCH -/

/-- On a branch in service the work of a reset ends a fence of the branch and the retires that the loss drains (R96, R97). -/
theorem resetWork_ends {s : State} {b : BranchId} (seq : BitVec 8) (hin : s.branches[b].state.inService = true) :
    Ends (fun op => (abortFence b op).or (lossCompletes s b op)) s (s.resetWork seq b) where
  list := (resetWork_completes hin).1.trans (complete_or_pcl s _ _).symm
  retiring w := by
    obtain ⟨-, -, hwindows⟩ := resetWork_settles seq hin
    rw [hwindows]
    cases h : retiredByLoss s b w <;> simp [abortFence, lossCompletes, h, Window.blank]
  draining c := by
    by_cases hc : c = b
    · subst hc
      rw [resetWork_self seq hin]
      simp [abortFence]
    · rw [resetWork_other s seq b c hc]
      simp [abortFence, lossCompletes, hc]
  resetting c hc _ := by
    by_cases hcb : c = b
    · subst hcb
      exact absurd hc (not_resetting_of_inService hin)
    · rwa [resetWork_other s seq b c hcb]

theorem resetEffects_pendingOk {s : State} {b : BranchId} (seq : BitVec 8) (hs : PendingOk s) :
    PendingOk (s.resetEffects seq b) := by
  unfold State.resetEffects
  cases hin : s.branches[b].state.inService with
  | false =>
    rw [resetWork_outOfService seq hin]
    exact (abortFence_ends (br := s.branches[b].beginReset s.timeBase) (fun h => BranchState.noConfusion h)
      fun _ => rfl).pendingOk hs
  | true =>
    have hstate : (s.resetWork seq b).branches[b].state = .resetting := by rw [resetWork_self seq hin]
    exact setBranch_pendingOk ((resetWork_ends seq hin).pendingOk hs)
      (iff_of_false (fun h => BranchState.noConfusion h) (by rw [hstate]; decide)) fun _ => rfl

/-- The effects of a reset take operations from the list and append none. -/
theorem mem_of_mem_resetEffects {s : State} {seq : BitVec 8} {b : BranchId} {op : LongOp}
    (h : op ∈ (s.resetEffects seq b).pcl.map PendingControl.op) : op ∈ s.pcl.map PendingControl.op := by
  have hwork : op ∈ (s.resetWork seq b).pcl.map PendingControl.op := h
  cases hin : s.branches[b].state.inService with
  | false =>
    rw [resetWork_outOfService seq hin, mem_complete_ops] at hwork
    exact hwork.1
  | true =>
    rw [(resetWork_ends seq hin).list, mem_complete_ops] at hwork
    exact hwork.1

/-- A branch that is not RESETTING has no reset in the list, so a reset may be appended (R97). -/
theorem resetBranch_pendingOk {s : State} (c : Control) (b : BranchId) (hs : PendingOk s) : PendingOk (s.resetBranch c b) := by
  unfold State.resetBranch
  split
  · exact answerNow_pendingOk c .already hs
  case isFalse hnot =>
    split
    · exact answerNow_pendingOk c .busy hs
    · refine pendingOk_of_append (resetEffects_pendingOk c.seq hs) rfl
        (fun h => hnot (resetting_of_reset_mem hs (mem_of_mem_resetEffects h))) (fun w => by simp) (fun d => by simp) fun d hd => ?_
      rcases hd with hd | hd
      · exact hd
      · cases hd
        rw [State.accept_branches, resetEffects_self]
        rfl

/-! ## Frames received and routing -/

theorem matchedReply_pendingOk {s : State} (b : BranchId) (e : EntryId) (h : Held) (st : ReplyStatus) (data : List Word)
    (hs : PendingOk s) : PendingOk (s.matchedReply b e h st data) := by
  unfold State.matchedReply
  split
  · split
    · exact answerEntry_pendingOk e h false .ok data hs
    · exact recordFault_pendingOk _ (answerEntry_pendingOk e h false .targetError [] hs)
  · exact answerEntry_pendingOk e h false st [] hs

theorem replyTo_pendingOk {s : State} (b : BranchId) (e : EntryId) (st : ReplyStatus) (data : List Word) (hs : PendingOk s) :
    PendingOk (s.replyTo b e st data) := by
  have hstray (k : BitVec 6) : PendingOk (s.strayReply b k) := recordFault_pendingOk _ hs
  have hlate (x : Entry) : PendingOk (s.setEntry e x).countLate :=
    pendingOk_of_frame (ks := .entries :: attentionBlocks) hs (by simp [sameBut_iff, attentionBlocks]) (by decide)
  unfold State.replyTo
  dsimp only
  split
  case h_1 =>
    split
    · exact matchedReply_pendingOk b e _ st data hs
    · exact hstray _
  case h_2 =>
    split
    · exact hlate _
    · exact hstray _
  case h_3 =>
    split
    · exact hlate _
    · exact hstray _
  all_goals exact hstray _

theorem takeReply_pendingOk {s : State} (b : BranchId) (t : BitVec 6) (st : ReplyStatus) (data : List Word) (hs : PendingOk s) :
    PendingOk (s.takeReply b t st data) := by
  unfold State.takeReply
  split
  · split
    · exact replyTo_pendingOk b _ st data hs
    · exact recordFault_pendingOk _ hs
  · exact hs

theorem takeCredit_pendingOk {s : State} (b : BranchId) (n : Nat) (hs : PendingOk s) : PendingOk (s.takeCredit b n) := by
  unfold State.takeCredit
  dsimp only
  split
  · split
    · exact setBranch_pendingOk hs Iff.rfl id
    · exact recordFault_pendingOk _ (setBranch_pendingOk hs Iff.rfl id)
  · exact hs

theorem takeWithdraw_pendingOk {s : State} (b : BranchId) (hs : PendingOk s) : PendingOk (s.takeWithdraw b) := by
  have hset : PendingOk ((s.setBranch b { s.branches[b] with withdraw := true }).raiseInternal 3) :=
    raiseInternal_pendingOk 3 (setBranch_pendingOk hs Iff.rfl id)
  unfold State.takeWithdraw
  split
  case h_4 => exact recordFault_pendingOk _ hs
  case h_5 => exact hs
  case h_6 => exact hs
  case h_7 => exact hs
  all_goals exact hset

theorem takeReturn_pendingOk {s : State} (b : BranchId) (hs : PendingOk s) : PendingOk (s.takeReturn b) := by
  unfold State.takeReturn
  split
  case h_1 hlent =>
    exact raiseInternal_pendingOk 4 (setBranch_idle_pendingOk hs (by rw [hlent]; decide) (by rw [hlent]; decide)
      fun h => BranchState.noConfusion h)
  case h_5 => exact hs
  case h_6 => exact hs
  case h_7 => exact hs
  all_goals exact recordFault_pendingOk _ hs

theorem takeAck_pendingOk {s : State} (v : BitVec 8) (hs : PendingOk s) : PendingOk (s.takeAck v) := by
  unfold State.takeAck
  split
  · exact hs
  · split
    · unfold State.acknowledge State.markRelease
      have htaken (ds : List Delivery) (n : LineId) (ln : Line) : PendingOk ({ s with deliveries := ds }.setLine n ln) :=
        pendingOk_of_frame (ks := [.deliveries, .lines]) hs (by simp [sameBut_iff]) (by decide)
      split
      · split
        · exact setBranch_pendingOk (htaken _ _ _) Iff.rfl id
        · exact htaken _ _ _
      · exact htaken _ _ _
    · exact pendingOk_of_frame (ks := attentionBlocks) hs (by simp [sameBut_iff, attentionBlocks]) (by decide)

theorem routeVia_pendingOk {s : State} (r : Request) (w : WindowId) (hs : PendingOk s) : PendingOk (s.routeVia r w) := by
  have hrouted {u : State} (b : BranchId) (i : Item) (hu : PendingOk u) :
      PendingOk (State.returnCredit (State.countIn w (State.append b i u))) := by
    have happended : PendingOk (u.append b i) := setBranch_pendingOk hu Iff.rfl id
    have hcounted : PendingOk ((u.append b i).countIn w) := setWindow_pendingOk happended Iff.rfl
    exact pendingOk_of_frame (ks := [.acc]) hcounted (by simp [sameBut_iff]) (by decide)
  unfold State.routeVia
  dsimp only
  split
  · exact hrouted _ _ (pendingOk_of_frame (ks := [.entries]) hs (by simp [sameBut_iff]) (by decide))
  · exact hs
  · exact hrouted _ _ hs

theorem routeExamination_pendingOk {s : State} (hs : PendingOk s) : Leaves PendingOk (execRouteExamination s) := by
  have htaken (rest : List IntakeFrame) : PendingOk { s with intake := rest } := hs
  unfold execRouteExamination
  split
  · apply leaves_next
    split
    · exact pendingOk_of_frame (htaken _) (refuse_frame _ _ _ _) (by decide)
    · exact pendingOk_of_frame (htaken _) (discardDuplicate_frame _ _) (by decide)
    · exact hs
    · exact routeVia_pendingOk _ _ (htaken _)
  · exact leaves_fault

/-! ## The links -/

/-- A branch that leaves power-on reset goes from DOWN to TRAINING or stays as it is (R78). -/
theorem leaveReset_pendingOk {s : State} (hs : PendingOk s) : Leaves PendingOk (execLeavePowerOnReset s) := by
  have hstate (br : Branch) : br.leaveReset.state = br.state ∨ br.state = .down ∧ br.leaveReset.state = .training := by
    unfold Branch.leaveReset
    split
    case isTrue h => exact .inr ⟨by simp_all, rfl⟩
    case isFalse => exact .inl rfl
  refine leaves_next ?_
  split
  · refine pendingOk_of_same hs rfl (fun _ => Iff.rfl) (fun b => ?_) fun b => ?_
    · rcases hstate s.branches[b] with h | ⟨hold, hnew⟩ <;> simp_all
    · rcases hstate s.branches[b] with h | ⟨hold, hnew⟩ <;> simp_all
  · exact hs

theorem branchPartnerAppears_pendingOk {s : State} (b : BranchId) (hs : PendingOk s) :
    Leaves PendingOk (execBranchPartnerAppears b s) := by
  refine leaves_next ?_
  by_cases hdown : s.branches[b].state = .down ∧ s.branches[b].ignorePartner = false ∧ s.porst = false
  · simp only [if_pos hdown]
    exact setBranch_idle_pendingOk hs (by rw [hdown.1]; decide) (by rw [hdown.1]; decide) fun h => BranchState.noConfusion h
  · simp only [if_neg hdown]
    exact setBranch_pendingOk hs Iff.rfl id

/-- A reset that ends leaves its branch out of RESETTING (R99). -/
theorem endReset_ends {s : State} {b : BranchId} {br : Branch} (st : ControlStatus)
    (hresetting : s.branches[b].state = .resetting) (hd : br.state ≠ .draining) :
    Ends (endReset b st) s ((s.setBranch b br).complete (endReset b st)) :=
  setBranch_ends (fun _ => rfl) (fun _ _ => rfl) (iff_of_false hd fun h => BranchState.noConfusion (hresetting.symm.trans h.1))
    fun _ h => by simp [endReset] at h

theorem branchTrained_pendingOk {s : State} (b : BranchId) (n : Nat) (hs : PendingOk s) : PendingOk (s.branchTrained b n) := by
  unfold State.branchTrained
  dsimp only
  split
  case h_1 htraining =>
    exact raiseInternal_pendingOk 2 (setBranch_idle_pendingOk hs (by rw [htraining]; decide) (by rw [htraining]; decide)
      fun h => BranchState.noConfusion h)
  case h_2 hresetting =>
    exact raiseInternal_pendingOk 2 ((endReset_ends .done hresetting fun h => BranchState.noConfusion h).pendingOk hs)
  all_goals exact hs

theorem partnerWaitExpiry_pendingOk {s : State} (b : BranchId) (hs : PendingOk s) :
    Leaves PendingOk (execPartnerWaitExpiry b s) :=
  leaves_guard fun h => (endReset_ends .noPartner h.1 fun h => BranchState.noConfusion h).pendingOk hs

theorem branchPartnerLost_pendingOk {s : State} (b : BranchId) (hs : PendingOk s) :
    Leaves PendingOk (execBranchPartnerLost b s) := by
  refine leaves_next ?_
  by_cases htraining : s.branches[b].state = .training
  · simp only [htraining, if_true]
    exact setBranch_idle_pendingOk hs (by rw [htraining]; decide) (by rw [htraining]; decide)
      fun h => BranchState.noConfusion h
  · simp only [if_neg htraining]
    have hset : PendingOk (s.setBranch b { s.branches[b] with partner := false, ignorePartner := false }) :=
      setBranch_pendingOk hs Iff.rfl id
    split
    case isTrue hin =>
      exact lossBy_pendingOk .signalLost hset (by rw [setBranch_self]; exact not_resetting_of_inService hin)
    case isFalse => exact hset

/-- The stall timer runs in service alone (R71). -/
theorem inService_of_timerDue {br : Branch} {now : Time} (h : TimerOk br) (hdue : waitDue br.stallTimer now = true) :
    br.state.inService = true := by
  have hruns : br.stallTimer.isSome = true := by
    cases hw : br.stallTimer with
    | none => rw [hw] at hdue; cases hdue
    | some d => rfl
  obtain ⟨-, -, hissues⟩ := (stalled_iff br).mp (h.symm.trans hruns)
  exact inService_of_issues ((issues_iff _).mpr hissues)

/-! ## Sends, issue and deadlines -/

theorem sendRelease_pendingOk {s : State} (b : BranchId) (hs : PendingOk s) : Leaves PendingOk (execSendRelease b s) := by
  unfold execSendRelease
  dsimp only
  split
  · exact leaves_next (setBranch_pendingOk hs Iff.rfl id)
  · exact leaves_fault

theorem issueNonPosted_pendingOk {s : State} (b : BranchId) (hs : PendingOk s) :
    Leaves PendingOk (execIssueNonPosted b s) := by
  have hentry (e : EntryId) (x : Entry) : PendingOk (s.setEntry e x) := hs
  unfold execIssueNonPosted
  split
  · split
    · exact leaves_next (setBranch_pendingOk (hentry _ _) Iff.rfl id)
    all_goals exact leaves_fault
  · exact leaves_fault

theorem issuePosted_pendingOk {s : State} (b : BranchId) (hs : PendingOk s) : Leaves PendingOk (execIssuePosted b s) := by
  unfold execIssuePosted
  split
  · exact leaves_next (settle_pendingOk _ _ (uncountOne_pendingOk _ (setBranch_pendingOk hs Iff.rfl id)))
  · exact leaves_fault

theorem requestDeadlineExpiry_pendingOk {s : State} (e : EntryId) (hs : PendingOk s) :
    Leaves PendingOk (execRequestDeadlineExpiry e s) := by
  unfold execRequestDeadlineExpiry
  split
  · exact leaves_guard fun _ => answerEntry_pendingOk e _ true .timeout [] hs
  all_goals exact leaves_fault

/-! ## Every command -/

/-- A control command whose run keeps the agreement keeps it. -/
theorem command_pendingOk {α : Type} {isRow : Nat → Bool} {operands : Control → Option α} {run : Control → α → State → State}
    {s : State} (hs : PendingOk s) (hrun : ∀ (c : Control) (a : α) (u : State), PendingOk u → PendingOk (run c a u)) :
    Leaves PendingOk (takeControl isRow (fun c => withOperands (operands c) c (run c)) s) :=
  leaves_command pendingOk_readsOnly (by decide) (by decide) hs fun c a u _ hu => hrun c a u hu

/-- Every command keeps the list in agreement; the ports are in order for the stall timer, which runs on no RESETTING branch. -/
theorem exec_pendingOk (c : Instr) {s : State} (hports : PortsOk s) (hs : PendingOk s) : Leaves PendingOk (exec c s) := by
  by_cases hw : ∀ k ∈ [Block.windows, .branches, .pcl], k ∉ writes c
  · exact exec_keeps_of_frame pendingOk_readsOnly hs hw
  cases c <;> simp only [exec]
  case powerOnReset => exact leaves_next (powerOn_pendingOk _ _ _)
  case leavePowerOnReset => exact leaveReset_pendingOk hs
  case trunkCheckFailure => exact leaves_next (trunkCheckFails_pendingOk hs)
  case trunkResetSequenceReceived =>
    refine leaves_next ?_
    split
    · exact trunkReset_pendingOk false s
    · exact hs
  case trunkPartnerLost =>
    refine leaves_next ?_
    split
    · exact trunkReset_pendingOk false _
    all_goals exact hs
  case intakeArrival f =>
    exact leaves_takeFrame (pendingOk_of_frame hs (arrive_frame _ s) (by decide)) (trunkCheckFails_pendingOk hs)
  case noticeAck f => exact leaves_takeFrame (takeAck_pendingOk _ hs) (trunkCheckFails_pendingOk hs)
  case trunkCreditReceived f => exact leaves_takeFrame hs (trunkCheckFails_pendingOk hs)
  case trunkUnexpectedFrame f =>
    exact leaves_takeFrame (pendingOk_of_frame hs (trunkUnexpected_frame _ s) (by decide)) (trunkCheckFails_pendingOk hs)
  case routeExamination => exact routeExamination_pendingOk hs
  case loadWindow => exact command_pendingOk hs fun c o u hu => loadWindow_pendingOk c o hu
  case retireWindow => exact command_pendingOk hs fun c w u hu => retireWindow_pendingOk c w hu
  case fenceBranch => exact command_pendingOk hs fun c o u hu => fenceBranch_pendingOk c o.1 o.2 hu
  case unfenceBranch => exact command_pendingOk hs fun c b u hu => unfenceBranch_pendingOk c b hu
  case resetBranch => exact command_pendingOk hs fun c b u hu => resetBranch_pendingOk c b hu
  case clearPath => exact command_pendingOk hs fun c _ u hu => answerNow_pendingOk c _ (clearPath_pendingOk hu)
  case branchPartnerAppears b => exact branchPartnerAppears_pendingOk b hs
  case branchTrainingComplete b capacity =>
    refine leaves_next ?_
    split
    · exact hs
    · exact branchTrained_pendingOk b _ hs
  case branchPartnerLost b => exact branchPartnerLost_pendingOk b hs
  case branchCheckFailure b => exact leaves_next (branchCheckFails_pendingOk b hs)
  case branchResetSequenceReceived b =>
    refine leaves_next ?_
    split
    case isTrue hin => exact lossBy_pendingOk .partnerReset hs (not_resetting_of_inService hin)
    case isFalse => exact hs
  case stallTimerExpiry b =>
    exact leaves_guard fun hdue =>
      sendReset_lossBy_pendingOk .stall hs (inService_of_timerDue (portsOk_timerOk hports b) hdue)
  case partnerWaitExpiry b => exact partnerWaitExpiry_pendingOk b hs
  case branchReply b f => exact leaves_takeFrame (takeReply_pendingOk b _ _ _ hs) (branchCheckFails_pendingOk b hs)
  case branchCredit b f => exact leaves_takeFrame (takeCredit_pendingOk b _ hs) (branchCheckFails_pendingOk b hs)
  case branchNotice b f =>
    exact leaves_takeFrame (pendingOk_of_frame hs (takeNotice_frame b _ s) (by decide)) (branchCheckFails_pendingOk b hs)
  case withdraw b f => exact leaves_takeFrame (takeWithdraw_pendingOk b hs) (branchCheckFails_pendingOk b hs)
  case unitReturn b f => exact leaves_takeFrame (takeReturn_pendingOk b hs) (branchCheckFails_pendingOk b hs)
  case branchUnexpectedFrame b f =>
    exact leaves_takeFrame (pendingOk_of_frame hs (branchUnexpected_frame b _ s) (by decide)) (branchCheckFails_pendingOk b hs)
  case branchFrameSent b => exact leaves_next (setBranch_pendingOk hs Iff.rfl id)
  case sendGrant b => exact leaves_guard fun _ => setBranch_pendingOk hs Iff.rfl id
  case sendReclaim b => exact leaves_guard fun _ => setBranch_pendingOk hs Iff.rfl id
  case sendRelease b => exact sendRelease_pendingOk b hs
  case issueNonPosted b => exact issueNonPosted_pendingOk b hs
  case issuePosted b => exact issuePosted_pendingOk b hs
  case requestDeadlineExpiry e => exact requestDeadlineExpiry_pendingOk e hs
  case drainComplete b => exact leaves_next (settle_pendingOk _ _ hs)
  case retireComplete w => exact leaves_next (settle_pendingOk _ _ hs)
  all_goals simp [writes, controlAnswerBlocks, attentionBlocks] at hw

/-- Settles O58: an event ends operations together with the waits of their windows and branches, or appends one as its wait begins. -/
theorem invariantPendingControl : Obligations.InvariantPendingControl := by
  intro s t hports hs h
  exact leaves_step (pendingOk_of_frame hs (tick_frame s) (by decide)) (fun c _ => exec_pendingOk c hports hs) t h

end Sys2Proof.Machine
end

section
/-! The refusals of the Control Unit (R178, R179): a code that names no command, and operands that do not read. -/

namespace Sys2Proof.Machine

open Sys2Proof.Safety

/-! ## Codes that name no command -/

/-- Settles O22: the frame of the code leaves the head and is answered at once. -/
theorem badCommandRefused : Obligations.BadCommandRefused := by
  intro c rest s h hcode
  have hexec : exec .badCommand s = .next ({ s with intake := rest }.answerNow c .badCommand []) := by
    show execBadCommand s = _
    exact takeControl_row h (by simpa using hcode)
  exact ⟨_, hexec, answerNow_answeredOnly s c rest .badCommand []⟩

/-! ## Operands in range -/

theorem oneBelow_inRange {n : Nat} {ws : List Word} {i : Fin n} (h : oneBelow n ws = some i) :
    ∃ w : Word, ws = [w] ∧ w.toNat < n := by
  unfold oneBelow at h
  split at h
  case h_1 w =>
    split at h
    case isTrue hw => exact ⟨w, rfl, hw⟩
    case isFalse => cases h
  case h_2 => cases h

theorem loadWindowOperands_inRange {ws : List Word} {o : LoadWindowOperands} (h : LoadWindowOperands.read ws = some o) :
    OperandsInRange 1 ws := by
  unfold LoadWindowOperands.read at h
  split at h
  case h_1 =>
    split at h
    case isTrue hindices =>
      split at h
      case isTrue hpages =>
        simp only [Config.addressPages] at hpages
        refine ⟨?_, ?_, ?_, ?_, ?_, ?_, ?_, ?_, ?_, ?_⟩ <;> omega
      case isFalse => cases h
    case isFalse => cases h
  case h_2 => cases h

theorem loadLineOperands_inRange {ws : List Word} {o : LoadLineOperands} (h : LoadLineOperands.read ws = some o) :
    OperandsInRange 4 ws := by
  unfold LoadLineOperands.read at h
  split at h
  case h_1 =>
    split at h
    case isTrue hline =>
      split at h
      case isTrue hrest =>
        refine ⟨?_, ?_, ?_, ?_, ?_⟩ <;> omega
      case isFalse => cases h
    case isFalse => cases h
  case h_2 => cases h

theorem timing_inRange {ws : List Word} {k : Timing} (h : Timing.read ws = some k) : OperandsInRange 6 ws := by
  unfold Timing.read at h
  split at h
  case h_1 =>
    split at h
    case isTrue hranges =>
      simp only [Bool.and_eq_true, inRange_iff] at hranges
      obtain ⟨⟨⟨⟨⟨h0, h1⟩, h2⟩, h3⟩, hresend⟩, hstall⟩ := hranges
      exact ⟨by simp [h0, h1, h2, h3], hresend.1, hresend.2, hstall.1, hstall.2⟩
    case isFalse => cases h
  case h_2 => cases h

theorem fenceOperands_inRange {ws : List Word} {o : BranchId × Bool} (h : fenceOperands ws = some o) :
    OperandsInRange 7 ws := by
  unfold fenceOperands at h
  split at h
  case h_1 =>
    split at h
    case isTrue hbranch =>
      split at h
      case isTrue hlend => exact ⟨Nat.le_of_lt_succ hbranch, Nat.le_of_lt_succ hlend⟩
      case isFalse => cases h
    case isFalse => cases h
  case h_2 => cases h

theorem takeFaultsOperand_inRange {ws : List Word} {n : Nat} (h : takeFaultsOperand ws = some n) : OperandsInRange 11 ws := by
  unfold takeFaultsOperand at h
  split at h
  case h_1 w =>
    split at h
    case isTrue hw => exact (inRange_iff 1 8 w).mp hw
    case isFalse => cases h
  case h_2 => cases h

theorem noOperands_eq_nil {ws : List Word} {u : Unit} (h : noOperands ws = some u) : ws = [] := by
  cases ws with
  | nil => rfl
  | cons => cases h

/-! ## Operands that do not read -/

/-- A command of code `k` that reads only operands in range refuses all others, and changes nothing (R179). -/
theorem badOperands_answeredOnly {α : Type} {operands : List Word → Option α}
    {run : Control → α → State → State} {k : Nat} {s : State} {c : Control} {rest : List IntakeFrame}
    (hread : ∀ (ws : List Word) (a : α), operands ws = some a → OperandsInRange k ws) (h : s.intake = .control c :: rest)
    (hk : c.command.toNat = k) (hbad : ¬OperandsInRange k c.operands) :
    ∃ t, takeControl (fun j => decide (j = k)) (fun c => withOperands (operands c.operands) c (run c)) s = .next t ∧
      AnsweredOnly c rest .badOperand [] s t := by
  have hnone : operands c.operands = none := Option.eq_none_iff_forall_ne_some.mpr fun a ha => hbad (hread _ a ha)
  refine ⟨_, takeControl_row h (decide_eq_true hk), ?_⟩
  rw [hnone]
  exact answerNow_answeredOnly s c rest .badOperand []

/-- A command with one index below `n` refuses all other operands. -/
theorem badIndex_answeredOnly {n k : Nat} (hrange : ∀ w : Word, w.toNat < n → OperandsInRange k [w])
    {run : Control → Fin n → State → State} {s : State} {c : Control} {rest : List IntakeFrame}
    (h : s.intake = .control c :: rest) (hk : c.command.toNat = k) (hbad : ¬OperandsInRange k c.operands) :
    ∃ t, takeControl (fun j => decide (j = k)) (fun c => withOperands (oneBelow n c.operands) c (run c)) s = .next t ∧
      AnsweredOnly c rest .badOperand [] s t := by
  refine badOperands_answeredOnly (fun ws i hi => ?_) h hk hbad
  obtain ⟨w, rfl, hw⟩ := oneBelow_inRange hi
  exact hrange w hw

/-- A command without operands refuses any. -/
theorem someOperands_answeredOnly {k : Nat} (hrange : OperandsInRange k [])
    {run : Control → Unit → State → State} {s : State} {c : Control} {rest : List IntakeFrame}
    (h : s.intake = .control c :: rest) (hk : c.command.toNat = k) (hbad : ¬OperandsInRange k c.operands) :
    ∃ t, takeControl (fun j => decide (j = k)) (fun c => withOperands (noOperands c.operands) c (run c)) s = .next t ∧
      AnsweredOnly c rest .badOperand [] s t := by
  refine badOperands_answeredOnly (fun ws u hu => ?_) h hk hbad
  rwa [noOperands_eq_nil hu]

/-- Settles O23, command by command in the order of the codes: what each reads is in range. -/
theorem badOperandsRefused : Obligations.BadOperandsRefused := by
  intro c rest s h hlow hhigh hbad
  have hindex {n : Nat} (w : Word) (hw : w.toNat < n + 1) : w.toNat ≤ n := Nat.le_of_lt_succ hw
  interval_cases hk : c.command.toNat
  · exact badOperands_answeredOnly (fun _ _ => loadWindowOperands_inRange) h hk hbad
  · exact badIndex_answeredOnly hindex h hk hbad
  · exact badIndex_answeredOnly hindex h hk hbad
  · exact badOperands_answeredOnly (fun _ _ => loadLineOperands_inRange) h hk hbad
  · exact badIndex_answeredOnly hindex h hk hbad
  · exact badOperands_answeredOnly (fun _ _ => timing_inRange) h hk hbad
  · exact badOperands_answeredOnly (fun _ _ => fenceOperands_inRange) h hk hbad
  · exact badIndex_answeredOnly hindex h hk hbad
  · exact badIndex_answeredOnly hindex h hk hbad
  · exact someOperands_answeredOnly (k := 10) trivial h hk hbad
  · exact badOperands_answeredOnly (fun _ _ => takeFaultsOperand_inRange) h hk hbad
  · exact someOperands_answeredOnly (k := 12) trivial h hk hbad
  · exact someOperands_answeredOnly (k := 13) trivial h hk hbad
  · exact someOperands_answeredOnly (k := 14) trivial h hk hbad

end Sys2Proof.Machine
end

section
/-! The reading commands of the Control Unit: READ-STATUS and IDENTIFY (R186, R194), and TAKE-FAULTS (R190, R191). -/

namespace Sys2Proof.Machine

open Sys2Proof.Safety

/-! ## READ-STATUS and IDENTIFY -/

theorem exec_readStatus {s : State} {c : Control} {rest : List IntakeFrame} (h : s.intake = .control c :: rest)
    (hc : c.command = 10) (ho : c.operands = []) :
    exec .readStatus s = .next ({ s with intake := rest }.answerNow c .done { s with intake := rest }.statusReport) := by
  show execReadStatus s = _
  exact takeControl_operands (a := ()) h (by rw [hc]; rfl) (by rw [ho]; rfl)

theorem exec_identify {s : State} {c : Control} {rest : List IntakeFrame} (h : s.intake = .control c :: rest)
    (hc : c.command = 14) (ho : c.operands = []) :
    exec .identify s = .next ({ s with intake := rest }.answerNow c .done identity) := by
  show execIdentify s = _
  exact takeControl_operands (a := ()) h (by rw [hc]; rfl) (by rw [ho]; rfl)

/-- A list of records of `k` words each has `k` words for each record. -/
theorem length_flatten_map {α : Type} {k : Nat} (report : α → List Word) (hk : ∀ x, (report x).length = k) (xs : List α) :
    (xs.map report).flatten.length = k * xs.length := by
  induction xs with
  | nil => rfl
  | cons x xs ih => simp [ih, hk, Nat.mul_add, Nat.add_comm]

/-- READ-STATUS has 46 words, and four for each operation that waits (R186). -/
theorem statusReport_length (s : State) : s.statusReport.length = 46 + 4 * s.pcl.length := by
  have hbranches : ((List.finRange 6).map fun b => s.branches[b].report).flatten.length = 5 * (List.finRange 6).length :=
    length_flatten_map (fun b : BranchId => s.branches[b].report) (fun _ => rfl) _
  have hrecords : (s.pcl.map PendingControl.report).flatten.length = 4 * s.pcl.length :=
    length_flatten_map PendingControl.report (fun _ => rfl) _
  simp only [State.statusReport, Counters.report, List.length_append, List.length_cons, List.length_nil, hbranches, hrecords,
    List.length_finRange]
  omega

/-- Settles O26: the items are those of the report, state by state and record by record. -/
theorem readStatusAndIdentify : Obligations.ReadStatusAndIdentify := by
  refine ⟨fun c rest s h hc ho => ?_, fun c rest s h hc ho => ⟨_, exec_identify h hc ho, ?_⟩⟩
  · intro branchItems stages record result
    have hbranch (b : BranchId) : s.branches[b].report = branchItems b := by
      dsimp only [Branch.report, branchItems]
      cases s.branches[b].state <;> rfl
    have hrecord (k : PendingControl) : k.report = record k := by
      dsimp only [PendingControl.report, record]
      cases k.op <;> rfl
    have hresult : { s with intake := rest }.statusReport = result := by
      have hbranches : ((List.finRange 6).map fun b => s.branches[b].report).flatten =
          branchItems 0 ++ branchItems 1 ++ branchItems 2 ++ branchItems 3 ++ branchItems 4 ++ branchItems 5 := by
        simp only [hbranch]
        rfl
      have hrecords : s.pcl.map PendingControl.report = s.pcl.map record := List.map_congr_left fun k _ => hrecord k
      simp only [State.statusReport, hbranches, hrecords, Counters.report, result, List.append_assoc, List.cons_append,
        List.nil_append]
      cases s.trunk.state <;> rfl
    rw [← hresult]
    exact ⟨statusReport_length _, _, exec_readStatus h hc ho, answerNow_answeredOnly s c rest .done _⟩
  · exact answerNow_answeredOnly s c rest .done identity

/-! ## TAKE-FAULTS -/

theorem takeFaultsOperand_word {n : Nat} (hlow : 1 ≤ n) (hhigh : n ≤ 8) : takeFaultsOperand [word n] = some n := by
  have hn : (word n).toNat = n := word_toNat (by omega)
  simp [takeFaultsOperand, inRange, hn, hlow, hhigh]

theorem exec_takeFaults {s : State} {c : Control} {rest : List IntakeFrame} {n : Nat} (h : s.intake = .control c :: rest)
    (hc : c.command = 11) (ho : takeFaultsOperand c.operands = some n) :
    exec .takeFaults s = .next ({ s with intake := rest, faults := s.faults.drop n }.answerNow c .done
      (faultsReport (s.faults.take n))) := by
  show execTakeFaults s = _
  exact takeControl_operands h (by rw [hc]; rfl) ho

/-- What `n` takes of a list of which a first part is as long as `n` allows. -/
theorem take_drop_of_min {α : Type} {xs taken left : List α} {n : Nat} (h : xs = taken ++ left)
    (hlen : taken.length = min n xs.length) : xs.take n = taken ∧ xs.drop n = left := by
  subst h
  rw [List.length_append] at hlen
  by_cases hn : n ≤ taken.length
  · obtain rfl : n = taken.length := by omega
    simp
  · obtain rfl : left = [] := List.length_eq_zero_iff.mp (by omega)
    simp [List.take_of_length_le, List.drop_of_length_le, Nat.le_of_not_le hn]

/-- An address is carried as its own word (R191). -/
theorem address_word (x : Option Word) : x.toList = fieldWords (x.map BitVec.toNat) := by
  cases x <;> simp [fieldWords, word]

/-- Settles O30: the codes by their tables, and the records taken as the report carries them. -/
theorem takeFaultsResult : Obligations.TakeFaultsResult := by
  refine ⟨rfl, fun _ => rfl, rfl, rfl, ?_⟩
  intro c rest n taken left s h hc ho hlow hhigh hsplit hlen one bit record
  have hone (x : Option Nat) : fieldWords x = one x := by cases x <;> rfl
  have hrecord (f : FaultRecord) : f.report = record f := by
    unfold FaultRecord.report FaultRecord.presence
    simp only [address_word, hone]
    rfl
  have hreport : faultsReport taken = word taken.length :: (taken.map record).flatten := by
    rw [faultsReport, List.map_congr_left fun f _ => hrecord f]
  obtain ⟨htake, hdrop⟩ := take_drop_of_min hsplit hlen
  have hexec := exec_takeFaults (n := n) h hc (by rw [ho, takeFaultsOperand_word hlow hhigh])
  rw [htake, hdrop, hreport] at hexec
  exact ⟨_, hexec, rfl, ⟨rfl, rfl⟩, by simp [sameBut_iff]⟩

end Sys2Proof.Machine
end

section
/-! CLEAR-PATH (R195): every entry answered, every queue and count emptied, and the waits that this ends completed. -/

namespace Sys2Proof.Machine

open Sys2Proof.Safety

/-! ## Before the completions -/

/-- The part with its entries answered, its counts 0 and its queues empty, before the waits that this ends are completed. -/
def State.emptied (s : State) : State :=
  { s with
    replyQ := s.replyQ ++ s.owed (fun _ => true) .aborted
    entries := Vector.ofFn fun e => s.entries[e].clear
    windows := Vector.ofFn fun w => { s.windows[w] with inFlight := 0 }
    branches := Vector.ofFn fun b => { s.branches[b] with queue := [] }.restall s.timeBase s.timing.stall }

theorem clearPath_eq (s : State) : s.clearPath = s.emptied.settle (fun _ => true) fun _ => true := rfl

theorem emptied_lists (s : State) : s.emptied.pcl = s.pcl ∧ s.emptied.ctlQ = s.ctlQ := by
  simp [State.emptied]

theorem emptied_entries (s : State) (e : EntryId) : s.emptied.entries[e] = s.entries[e].clear := by
  simp [State.emptied]

theorem emptied_windows (s : State) (w : WindowId) : s.emptied.windows[w] = { s.windows[w] with inFlight := 0 } := by
  simp [State.emptied]

/-- A port whose queue is emptied has no stall timer (R71). -/
theorem emptied_branches (s : State) (b : BranchId) :
    s.emptied.branches[b] = { s.branches[b] with queue := [], stallTimer := none } := by
  rw [← restall_of_not_stalled s.timeBase s.timing.stall { s.branches[b] with queue := [] } (stalled_eq_false_of_queue rfl)]
  simp [State.emptied]

/-- A RETIRING window whose count is emptied has drained (R17). -/
theorem emptied_window_drained (s : State) (w : WindowId) :
    s.emptied.windows[w].drained = decide (s.windows[w].state = .retiring) := by
  rw [emptied_windows]
  simp [Window.drained]

/-- A DRAINING branch has drained: its queue is empty and no entry is ISSUED (R93). -/
theorem emptied_drained (s : State) (b : BranchId) : s.emptied.drained b = decide (s.branches[b].state = .draining) := by
  have hissued (e : EntryId) (h : Held) (d : Time) : s.entries[e].clear ≠ .issued h d := by
    cases s.entries[e] <;> exact fun hc => Entry.noConfusion hc
  rw [Bool.eq_iff_iff, drained_iff, decide_eq_true_eq, emptied_branches]
  refine ⟨fun ⟨hstate, _⟩ => hstate, fun hstate => ⟨hstate, rfl, fun e h d he => ?_⟩⟩
  rw [emptied_entries] at he
  exact absurd he (hissued e h d)

/-! ## The event -/

theorem clearPath_entries (s : State) (e : EntryId) : s.clearPath.entries[e] = s.entries[e].clear := by
  rw [clearPath_eq, State.settle_entries, emptied_entries]

theorem clearPath_windows (s : State) (w : WindowId) : s.clearPath.windows[w] =
    if s.windows[w].state = .retiring then Window.blank else { s.windows[w] with inFlight := 0 } := by
  rw [clearPath_eq, settle_windows, emptied_window_drained, emptied_windows]
  simp

theorem clearPath_branches (s : State) (b : BranchId) : s.clearPath.branches[b] =
    if s.branches[b].state = .draining ∧ s.branches[b].drainLend = true then
      { s.branches[b] with
        queue := [], stallTimer := none, state := .lent, drainLend := false, lendWanted := .granted, withdraw := false }
    else if s.branches[b].state = .draining then
      { s.branches[b] with queue := [], stallTimer := none, state := .fenced, drainLend := false }
    else { s.branches[b] with queue := [], stallTimer := none } := by
  rw [clearPath_eq]
  by_cases hstate : s.branches[b].state = .draining
  · rw [settle_branch_drained rfl (by rw [emptied_drained, hstate]; rfl), emptied_branches]
    by_cases hlend : s.branches[b].drainLend = true
    · exact (if_pos hlend).trans (if_pos ⟨hstate, hlend⟩).symm
    · exact (if_neg hlend).trans ((if_neg fun h => hlend h.2).trans (if_pos hstate)).symm
  · have hkept : s.emptied.drained b ≠ true := by rwa [emptied_drained, ne_eq, decide_eq_true_eq]
    rw [settle_branch_kept fun h => hkept h.2, emptied_branches, if_neg fun h => hstate h.1, if_neg hstate]

/-- The operations that end: every retire that waits and every fence that waits (R195). -/
theorem clearPath_completes {s : State} {f : LongOp → Option ControlStatus}
    (hretire : ∀ w : WindowId, f (.retire w) = if s.windows[w].state = .retiring then some .done else none)
    (hfence : ∀ b : BranchId, f (.fence b) = if s.branches[b].state = .draining then some .done else none)
    (hreset : ∀ b : BranchId, f (.reset b) = none) :
    s.clearPath.pcl = (s.complete f).pcl ∧ s.clearPath.ctlQ = (s.complete f).ctlQ := by
  have hsettled := settle_completes (s := s.emptied) (ws := fun _ => true) (bs := fun _ => true) (f := f)
    (fun w => by rw [hretire, emptied_window_drained]; simp) (fun b => by rw [hfence, emptied_drained]; simp) hreset
  obtain ⟨hpcl, hctl⟩ := emptied_lists s
  have hlists := complete_congr (f := f) (fun _ => rfl) hpcl hctl
  rw [clearPath_eq, hsettled.1, hsettled.2]
  exact hlists

theorem exec_clearPath {s : State} {c : Control} {rest : List IntakeFrame} (h : s.intake = .control c :: rest)
    (hc : c.command = 13) (ho : c.operands = []) :
    exec .clearPath s = .next ({ s with intake := rest }.clearPath.answerNow c .done []) := by
  show execClearPath s = _
  exact takeControl_operands (a := ()) h (by rw [hc]; rfl) (by rw [ho]; rfl)

/-- Settles O34, part by part of the event. -/
theorem clearPathResult : Obligations.ClearPathResult := by
  intro c rest s h hc ho ends
  have hentries := clearPath_entries { s with intake := rest }
  have hwindows := clearPath_windows { s with intake := rest }
  have hbranches := clearPath_branches { s with intake := rest }
  obtain ⟨hpcl, hctl⟩ :=
    clearPath_completes (s := { s with intake := rest }) (f := ends) (fun _ => rfl) (fun _ => rfl) fun _ => rfl
  refine ⟨_, exec_clearPath h hc ho, ?_, ?_, ?_, ?_, ?_, ?_, ?_, ?_⟩
  · rw [State.answerNow_intake, State.clearPath_intake]
  · rw [State.answerNow_entries]
    exact hentries
  · rw [State.answerNow_replyQ, State.clearPath_replyQ]
    refine congrArg (s.replyQ ++ ·) (List.filterMap_congr fun e _ => ?_)
    dsimp only
    cases s.entries[e] <;> rfl
  · rw [State.answerNow_windows]
    exact hwindows
  · rw [State.answerNow_branches]
    exact hbranches
  · rw [State.answerNow_pcl, hpcl]
    rfl
  · rw [State.answerNow_ctlQ, hctl]
    rfl
  · simp [sameBut_iff]

end Sys2Proof.Machine
end

section
/-! A step on a queue that is not empty: the other branch of `step`, beside `step_empty` (log entry 1). -/

namespace Sys2Proof.Machine

/-- The front command is executed on the state whose queue it has left, so a command never sees itself waiting (log entry 1). -/
theorem step_cons {s : State} {c : Instr} {rest : List Instr} (h : s.pending = c :: rest) :
    step s = exec c { s with pending := rest } := by
  unfold step
  rw [h]

/-- Settles O1: the queue has a front command, so the step is that command's execution. -/
theorem stepTakesFront : Obligations.StepTakesFront :=
  fun _ _ _ hfront => step_cons hfront

end Sys2Proof.Machine
end
